-- ==== Sys2Proof/Word.lean ====
section
/-! DEFINITION. The two word sizes of the core (spec/00_scope.md R9): 8-bit data, 16-bit addresses. -/

namespace Sys2Proof

/-- An 8-bit datum: a register, a memory byte, an opcode byte (R9, R11). -/
abbrev Byte := BitVec 8

/-- A 16-bit value: an address, a register pair, an I/O port (R9, R11). -/
abbrev Word := BitVec 16

end Sys2Proof
end

