-- ==== Sys2Proof/Machine/Bits.lean ====
section
/-! DEFINITION. The bit-field, byte-order and sign-extension helpers the decoder and the machine share
(spec/00_scope.md R11, R12; spec/30_encoding.md R301, R302). -/

namespace Sys2Proof

/-- Bits 7..0 of a pair: its low, second-named register (spec/10_state.md R101). -/
def lo8 (w : Word) : Byte := w.extractLsb' 0 8

/-- Bits 15..8 of a pair: its high, first-named register (spec/10_state.md R101). -/
def hi8 (w : Word) : Byte := w.extractLsb' 8 8

/-- `hi:lo`, the 16-bit value `hi*256 + lo` (spec/00_scope.md R12). -/
def mk16 (hi lo : Byte) : Word := hi ++ lo

/-- `sext_16(v)` (spec/00_scope.md R12). -/
def sext16 (v : Byte) : Word := v.signExtend 16

/-- `parity(v)`: true when the number of set bits is even (spec/00_scope.md R12, spec/90_conflicts.md C3). -/
def parity (v : Byte) : Bool :=
  !(v.getLsbD 0 ^^ v.getLsbD 1 ^^ v.getLsbD 2 ^^ v.getLsbD 3
    ^^ v.getLsbD 4 ^^ v.getLsbD 5 ^^ v.getLsbD 6 ^^ v.getLsbD 7)

/-- `x = op[7:6]` (spec/30_encoding.md R302). -/
def opX (op : Byte) : BitVec 2 := op.extractLsb' 6 2

/-- `y = op[5:3]` (spec/30_encoding.md R302). -/
def opY (op : Byte) : BitVec 3 := op.extractLsb' 3 3

/-- `z = op[2:0]` (spec/30_encoding.md R302). -/
def opZ (op : Byte) : BitVec 3 := op.extractLsb' 0 3

/-- `p = y >> 1`, bits 5..4 of the opcode (spec/30_encoding.md R301, R302). -/
def opP (op : Byte) : BitVec 2 := op.extractLsb' 4 2

/-- `q = y & 1`, bit 3 of the opcode (spec/30_encoding.md R301, R302). -/
def opQ (op : Byte) : BitVec 1 := op.extractLsb' 3 1

/-- The opcode byte with fields x, y, z (spec/30_encoding.md R301). -/
def mkOp (x : BitVec 2) (y z : BitVec 3) : Byte := x ++ y ++ z

/-- The opcode byte with fields x, p, q, z (spec/30_encoding.md R301). -/
def mkOpPQ (x p : BitVec 2) (q : BitVec 1) (z : BitVec 3) : Byte := x ++ p ++ q ++ z

/-- The opcodes a DD/FD prefix changes, `0xCB` apart: the 85 of spec/30_encoding.md R320. -/
def xyAffected (op : Byte) : Bool :=
  let y := (opY op).toNat
  let z := (opZ op).toNat
  let half (i : Nat) : Bool := i == 4 || i == 5
  let hl (i : Nat) : Bool := half i || i == 6
  match (opX op).toNat with
  | 0 =>
    match z with
    | 1 => opQ op == 1#1 || opP op == 2#2
    | 2 => opP op == 2#2
    | 3 => opP op == 2#2
    | 4 => hl y
    | 5 => hl y
    | 6 => hl y
    | _ => false
  | 1 => op != 0x76#8 && (hl y || hl z)
  | 2 => hl z
  | _ => op == 0xE1#8 || op == 0xE3#8 || op == 0xE5#8 || op == 0xE9#8 || op == 0xF9#8

/-- The bytes after which a DD/FD prefix has no effect (spec/30_encoding.md R321, spec/49_cpu_control.md R786). -/
def xyIneffective (op : Byte) : Bool := !xyAffected op && op != 0xCB#8

/-- The invalid ED opcodes: every byte of the ranges of spec/30_encoding.md R312, which are 176. DEDUCED: R312 and
spec/49_cpu_control.md R787 count 179 of them, against R312's own ranges, condition and grid (log 31). Unsafe only if
that count were right; R311 gives every ED opcode outside the ranges an instruction. -/
def edInvalid (op : Byte) : Bool :=
  match (opX op).toNat with
  | 1 => false
  | 2 => 3 < (opZ op).toNat || (opY op).toNat < 4
  | _ => true

end Sys2Proof
end

