-- ==== Sys2Proof/Config.lean ====
section
/-! DEFINITION. The configuration parameters of spec/00_scope.md R10, and the free values: what the spec
leaves open and the machine goes on with (spec/93_implementation_defined.md, treatment "any value"). -/

namespace Sys2Proof

/-- `H_MODE` (spec/41_flag_alu_engine.md R452). -/
inductive HMode where
  /-- half-carry as the repository computes it: 1 for AND, 0 otherwise -/
  | source
  /-- half-carry as the part computes it -/
  | part
  deriving DecidableEq, Repr

/-- `PM_MODE` (spec/41_flag_alu_engine.md R470). The SOURCE reading carries both OPEN values, `PM_SRC_BIT`
and `PM_SRC_SET`, so a configuration without them cannot be written (spec/93_implementation_defined.md I1; log 19). -/
inductive PmMode where
  | part
  | source (srcBit : Fin 8) (srcSet : Bool)
  deriving DecidableEq, Repr

/-- `PUSH_ORDER` (spec/20_memory.md R205). -/
inductive PushOrder where
  | lowFirst
  | highFirst
  deriving DecidableEq, Repr

/-- `CP_XY` (spec/41_flag_alu_engine.md R456). -/
inductive CpXy where
  | result
  | operand
  deriving DecidableEq, Repr

/-- `UNIMPL_POLICY` (spec/40_step_machine.md R412). -/
inductive UnimplPolicy where
  | nopFlag
  | fault
  deriving DecidableEq, Repr

/-- `UNDOC_FLAGS` (spec/93_implementation_defined.md I6). -/
inductive UndocFlags where
  | values
  | draw
  deriving DecidableEq, Repr

/-- `REFRESH_DELAY`: a fraction of a half-phase in [0, 1), as a numerator below its denominator (OPEN; no
architectural rule depends on it; log 20). -/
structure RefreshDelay where
  den : Nat
  num : Fin den
  deriving DecidableEq, Repr

/-- The parameters of spec/00_scope.md R10. The parameter `BUS` stands in the state, as what answers the next reads
(log 1, log 2). -/
structure Config where
  hMode        : HMode
  pmMode       : PmMode
  pushOrder    : PushOrder
  cpXy         : CpXy
  unimplPolicy : UnimplPolicy
  undocFlags   : UndocFlags
  refreshDelay : RefreshDelay
  deriving DecidableEq, Repr

/-- The defaults of spec/00_scope.md R10; `REFRESH_DELAY` has none there (log 20: DESIGN CHOICE 0). -/
def Config.default : Config where
  hMode        := .source
  pmMode       := .part
  pushOrder    := .lowFirst
  cpXy         := .result
  unimplPolicy := .nopFlag
  undocFlags   := .values
  refreshDelay := ⟨1, 0⟩

/-- FREE VALUE: the undocumented flag bits under `UNDOC_FLAGS = DRAW`
(spec/93_implementation_defined.md I6; log 4). -/
opaque Config.freeFlags : Nat → Byte

/-- FREE VALUE: the scratch latch WZ at an instruction boundary
(spec/10_state.md R112, spec/93_implementation_defined.md I10; log 5). -/
opaque Config.freeLatch : Nat → Word

/-- FREE VALUE: whether a WRITE or IOWRITE cycle that reset cut short reached the platform
(spec/70_reset_and_hazards.md R851, spec/93_implementation_defined.md I11; log 6). -/
opaque Config.freeWriteLands : Nat → Bool

end Sys2Proof
end

