-- ==== Sys2Proof/Names.lean ====
section
/-! DEFINITION. The names an instruction is written with: the entries of the decode tables
(spec/30_encoding.md R305), the prefix latch values (spec/10_state.md R116) and the two index registers
(R320). Their codes are in Decode.lean. -/

namespace Sys2Proof

/-- The registers of `r[i]` (spec/30_encoding.md R305); entry 6 is the memory operand, not a register.
Where a constructor of the DD/FD tables names `h` or `l` in a form that R320 substitutes, its docstring says so. -/
inductive R8 where
  | b | c | d | e | h | l | a
  deriving DecidableEq, Repr

/-- The pairs of `rp[i]` (spec/30_encoding.md R305). In the DD/FD forms `hl` stands for the index register (R320). -/
inductive RP where
  | bc | de | hl | sp
  deriving DecidableEq, Repr

/-- The pairs of `rp2[i]` (spec/30_encoding.md R305). -/
inductive RP2 where
  | bc | de | hl | af
  deriving DecidableEq, Repr

/-- The conditions `cc[i]` (spec/30_encoding.md R305). -/
inductive CC where
  | nz | z | nc | c | po | pe | p | m
  deriving DecidableEq, Repr

/-- The four conditions of `JR cc,e` (spec/30_encoding.md R306). -/
inductive JCC where
  | nz | z | nc | c
  deriving DecidableEq, Repr

/-- A byte of an index register: IXH/IYH or IXL/IYL (spec/10_state.md R111). -/
inductive Half where
  | hi | lo
  deriving DecidableEq, Repr

/-- The register a DD or FD prefix selects (spec/30_encoding.md R320). -/
inductive XY where
  | ix | iy
  deriving DecidableEq, Repr

/-- The eight operations of `alu[i]` (spec/30_encoding.md R305). -/
inductive AluOp where
  | add | adc | sub | sbc | and | xor | or | cp
  deriving DecidableEq, Repr

/-- The eight operations of `rot[i]` (spec/30_encoding.md R305). -/
inductive RotOp where
  | rlc | rrc | rl | rr | sla | sra | sll | srl
  deriving DecidableEq, Repr

/-- The prefix latch (spec/10_state.md R116, spec/30_encoding.md R323). -/
inductive Latch where
  | none | cb | ed | dd | fd | ddcb | fdcb
  deriving DecidableEq, Repr

end Sys2Proof
end

