-- ==== Sys2Proof/Machine/State.lean ====
section
/-! DEFINITION. Everything the spec gives the machine (spec/10_state.md R100 to R120), the platform behind the
bus (spec/20_memory.md R200, spec/92_eei_decisions.md D29), the configuration (spec/00_scope.md R10), and the
state after reset. INVENTORY.md lists every field with its rule. -/

namespace Sys2Proof.Machine

/-- The reasons a step could stop with a fault. There is none: the core raises no synchronous exception and every
opcode, address and port completes (spec/60_exceptions.md R800); nothing raises one, which is safe. -/
inductive Fault where
  deriving DecidableEq, Repr

/-- The reasons a step could be refused. -/
inductive Refusal where
  /-- Raised by Machine/Dispatch.lean for an instruction without a meaning; safe, since the machine stops.
  No arm raises it: every instruction has its meaning. -/
  | notModelled (mnemonic : String)
  deriving DecidableEq, Repr

/-- The register file: 30 bytes, as pairs and single bytes (spec/10_state.md R100, R113). -/
structure Regs where
  /-- program counter (R107) -/
  pc       : Word
  /-- interrupt vector register (R108) -/
  i        : Byte
  /-- refresh register (R109) -/
  r        : Byte
  /-- the scratch latch W:Z (R112) -/
  wz       : Word
  /-- stack pointer (R106) -/
  sp       : Word
  /-- index register IX (R111) -/
  ix       : Word
  /-- index register IY (R111) -/
  iy       : Word
  b        : Byte
  c        : Byte
  d        : Byte
  e        : Byte
  h        : Byte
  l        : Byte
  /-- accumulator (R102) -/
  a        : Byte
  /-- flags: S Z Y H X PV N C, bit 7 down to bit 0 (R104) -/
  f        : Byte
  /-- BC' (R103) -/
  bcShadow : Word
  /-- DE' (R103) -/
  deShadow : Word
  /-- HL' (R103) -/
  hlShadow : Word
  /-- AF' (R103) -/
  afShadow : Word
  /-- R110 -/
  iff1     : Bool
  /-- R110 -/
  iff2     : Bool
  deriving DecidableEq, Repr

/-- The decode fields of the last opcode byte decoded (spec/10_state.md R115). -/
structure Fields where
  x : BitVec 2
  y : BitVec 3
  z : BitVec 3
  p : BitVec 2
  q : BitVec 1
  deriving DecidableEq, Repr

/-- The six bus-cycle types (spec/20_memory.md R201). -/
inductive Cycle where
  | fetch | read | write | ioRead | ioWrite | exec
  deriving DecidableEq, Repr

/-- Execution progress (spec/10_state.md R117). -/
structure Seq where
  cycle     : Cycle
  /-- 0 to 7 -/
  phase     : Nat
  /-- 0 when no instruction is in progress -/
  step      : Nat
  /-- a step asked for held T-states (spec/40_step_machine.md R405) -/
  hold      : Bool
  /-- half-phases still to be consumed (spec/20_memory.md R221) -/
  holdLeft  : Nat
  done      : Bool
  nextCycle : Cycle
  nextAddr  : Word
  nextData  : Byte
  /-- the length of a requested EXEC cycle (spec/40_step_machine.md R403) -/
  nextLen   : Nat
  dataIn    : Byte
  /-- the previous edge completed a cycle (spec/20_memory.md R222 (b); log 15) -/
  ended     : Bool
  deriving DecidableEq, Repr

/-- What the core drives toward the bus interface (spec/10_state.md R119): a bus is a value or floating, a control
line is asserted or not (all six are active low and always driven, spec/20_memory.md R232). -/
structure Pins where
  addr        : Option Word
  /-- the address was driven with the offset `REFRESH_DELAY` (spec/20_memory.md R231, R234; log 20) -/
  addrDelayed : Bool
  data        : Option Byte
  m1          : Bool
  mreq        : Bool
  iorq        : Bool
  rd          : Bool
  wr          : Bool
  rfsh        : Bool
  deriving DecidableEq, Repr

/-- One completed bus cycle with its length in T-states (spec/00_scope.md R15; log 18). For an EXEC cycle the
address and data mean nothing and are zero. -/
structure BusEvent where
  kind    : Cycle
  addr    : Word
  data    : Byte
  tStates : Nat
  deriving DecidableEq, Repr

/-- Memory: (address, byte) pairs, addresses strictly rising, no entry equal to what an unlisted address reads as
(Machine/Memory.lean; log 1). -/
abbrev Memory := List Host.Cell

/-- The I/O oracle: (port, byte) pairs (spec/92_eei_decisions.md D29; log 2). -/
abbrev IoTable := List Host.Cell

/-- The machine. -/
structure State where
  regs       : Regs
  mem        : Memory
  ioIn       : IoTable
  /-- answers to the next IOREAD cycles, before the oracle is asked (log 2) -/
  ioTape     : List Byte
  /-- what `BUS` answers to the next FETCH and READ cycles, before the memory above is asked (spec/20_memory.md R200;
  log 2) -/
  memTape    : List Byte
  /-- the prefix latch (spec/10_state.md R116) -/
  latch      : Latch
  fields     : Fields
  seq        : Seq
  pins       : Pins
  /-- spec/10_state.md R118 -/
  active     : Bool
  /-- the level of RESET last seen: true means asserted (spec/70_reset_and_hazards.md R850) -/
  resetLow   : Bool
  /-- spec/70_reset_and_hazards.md R852 -/
  resetCount : Nat
  /-- spec/40_step_machine.md R413 -/
  halted     : Bool
  /-- spec/40_step_machine.md R412 -/
  unimplSeen : Bool
  /-- spec/40_step_machine.md R412 -/
  unimplOp   : Word
  /-- the cycles made so far, newest first (log 18) -/
  bus        : List BusEvent
  /-- which free value is taken next (log 7) -/
  draws      : Nat
  cfg        : Config
  deriving DecidableEq, Repr

/-- The register file zeroed (spec/10_state.md R120). -/
def Regs.zero : Regs where
  pc := 0; i := 0; r := 0; wz := 0; sp := 0; ix := 0; iy := 0
  b := 0; c := 0; d := 0; e := 0; h := 0; l := 0; a := 0; f := 0
  bcShadow := 0; deShadow := 0; hlShadow := 0; afShadow := 0
  iff1 := false; iff2 := false

/-- spec/10_state.md R115, R120. -/
def Fields.zero : Fields where
  x := 0; y := 0; z := 0; p := 0; q := 0

/-- spec/10_state.md R117, R120 (`nextLen`, `ended`: log 7, log 15). -/
def Seq.zero : Seq where
  cycle := .fetch; phase := 0; step := 0; hold := false; holdLeft := 0; done := false
  nextCycle := .fetch; nextAddr := 0; nextData := 0; nextLen := 0; dataIn := 0; ended := true

/-- Control lines inactive, buses floating (spec/10_state.md R119, R120). -/
def Pins.idle : Pins where
  addr := none; addrDelayed := false; data := none
  m1 := false; mreq := false; iorq := false; rd := false; wr := false; rfsh := false

/-- The machine right after a valid reset is released (spec/10_state.md R120, spec/70_reset_and_hazards.md R853,
R856; log 8), before its first FETCH at 0x0000. -/
def State.reset : State where
  regs       := Regs.zero
  mem        := []
  ioIn       := []
  ioTape     := []
  memTape    := []
  latch      := .none
  fields     := Fields.zero
  seq        := Seq.zero
  pins       := Pins.idle
  active     := true
  resetLow   := false
  resetCount := 3
  halted     := false
  unimplSeen := false
  unimplOp   := 0
  bus        := []
  draws      := 0
  cfg        := Config.default

end Sys2Proof.Machine
end

