-- ==== Sys2Proof/Machine/Memory.lean ====
section
/-! DEFINITION. Memory and the I/O oracle as sorted lists of cells (spec/20_memory.md R202, R203,
spec/92_eei_decisions.md D29): the platform of log 1 and log 2. -/

namespace Sys2Proof.Machine

/-- What a byte of memory that nothing has written reads as (log 1: DESIGN CHOICE). -/
def unlistedByte : Byte := 0x00#8

/-- What a port the oracle does not list answers (spec/92_eei_decisions.md D29). -/
def unlistedPort : Byte := 0xFF#8

/-- The byte a table lists under a key, or the default. -/
def lookupCell (default : Byte) : List Host.Cell → Nat → Byte
  | [], _ => default
  | (k, v) :: rest, n => if k = n then v else lookupCell default rest n

/-- Puts a cell before the first one with a greater key. -/
def insertCell (n : Nat) (v : Byte) : List Host.Cell → List Host.Cell
  | [] => [(n, v)]
  | (k, w) :: rest => if n < k then (n, v) :: (k, w) :: rest else (k, w) :: insertCell n v rest

/-- The table that answers `v` under `n` and is otherwise the same, in canonical form. -/
def storeCell (default : Byte) (m : List Host.Cell) (n : Nat) (v : Byte) : List Host.Cell :=
  let others := m.filter (fun cell => cell.1 != n)
  if v = default then others else insertCell n v others

/-- `MemRead` of the platform: the byte at an address (spec/20_memory.md R202). -/
def Memory.read (m : Memory) (a : Word) : Byte := lookupCell unlistedByte m a.toNat

/-- `MemWrite` of the platform (spec/20_memory.md R202). -/
def Memory.write (m : Memory) (a : Word) (v : Byte) : Memory := storeCell unlistedByte m a.toNat v

/-- Writes bytes at consecutive addresses, wrapping (spec/20_memory.md R207). -/
def Memory.writeBytes (m : Memory) (a : Word) : List Byte → Memory
  | [] => m
  | v :: vs => Memory.writeBytes (m.write a v) (a + 1) vs

/-- Keys strictly rising, all below the limit, no entry equal to the default. -/
def cellsCanonical (default : Byte) : List Host.Cell → Bool
  | [] => true
  | [(k, v)] => decide (k < 65536) && v != default
  | (k, v) :: (k', v') :: rest =>
    decide (k < k') && v != default && cellsCanonical default ((k', v') :: rest)

/-- The canonical form of memory: equal memories are equal lists. -/
def Memory.wf (m : Memory) : Bool := cellsCanonical unlistedByte m

/-- The byte the oracle answers at a port (spec/92_eei_decisions.md D29). -/
def IoTable.answer (t : IoTable) (port : Word) : Byte := lookupCell unlistedPort t port.toNat

/-- The oracle with one answer changed. -/
def IoTable.setAnswer (t : IoTable) (port : Word) (v : Byte) : IoTable := storeCell unlistedPort t port.toNat v

end Sys2Proof.Machine
end

