-- ==== Sys2Proof/Machine/Operands.lean ====
section
/-! DEFINITION. The two views of the register file and every operand form (spec/10_state.md R100 to R112,
spec/30_encoding.md R304, R305, R320). -/

namespace Sys2Proof.Machine

/-- What one step of an instruction does to the state (spec/40_step_machine.md R402). -/
abbrev StepFn := State → State

/-! ### Pairs (R101) -/

/-- `AF = A:F`. -/
def State.af (s : State) : Word := mk16 s.regs.a s.regs.f
/-- `BC = B:C`. -/
def State.bc (s : State) : Word := mk16 s.regs.b s.regs.c
/-- `DE = D:E`. -/
def State.de (s : State) : Word := mk16 s.regs.d s.regs.e
/-- `HL = H:L`. -/
def State.hl (s : State) : Word := mk16 s.regs.h s.regs.l

/-- Writing `AF` changes both `A` and `F`. -/
def setAf (v : Word) (s : State) : State := { s with regs := { s.regs with a := hi8 v, f := lo8 v } }
/-- Writing `BC` changes both `B` and `C`. -/
def setBc (v : Word) (s : State) : State := { s with regs := { s.regs with b := hi8 v, c := lo8 v } }
/-- Writing `DE` changes both `D` and `E`. -/
def setDe (v : Word) (s : State) : State := { s with regs := { s.regs with d := hi8 v, e := lo8 v } }
/-- Writing `HL` changes both `H` and `L`. -/
def setHl (v : Word) (s : State) : State := { s with regs := { s.regs with h := hi8 v, l := lo8 v } }

/-! ### Single registers -/

/-- `PC <- v` (R107). -/
def setPc (v : Word) (s : State) : State := { s with regs := { s.regs with pc := v } }
/-- `SP <- v` (R106). -/
def setSp (v : Word) (s : State) : State := { s with regs := { s.regs with sp := v } }
/-- `WZ <- v` (R112). -/
def setWz (v : Word) (s : State) : State := { s with regs := { s.regs with wz := v } }
/-- `I <- v` (R108). -/
def setI (v : Byte) (s : State) : State := { s with regs := { s.regs with i := v } }
/-- `R <- v`, all eight bits (R109). -/
def setRefresh (v : Byte) (s : State) : State := { s with regs := { s.regs with r := v } }
/-- `F <- v` (R104). -/
def setF (v : Byte) (s : State) : State := { s with regs := { s.regs with f := v } }

/-- `r[i]`, read (spec/30_encoding.md R305). -/
def getR (r : R8) (s : State) : Byte :=
  match r with
  | .b => s.regs.b
  | .c => s.regs.c
  | .d => s.regs.d
  | .e => s.regs.e
  | .h => s.regs.h
  | .l => s.regs.l
  | .a => s.regs.a

/-- `r[i] <- v` (spec/30_encoding.md R305). -/
def setR (r : R8) (v : Byte) (s : State) : State :=
  match r with
  | .b => { s with regs := { s.regs with b := v } }
  | .c => { s with regs := { s.regs with c := v } }
  | .d => { s with regs := { s.regs with d := v } }
  | .e => { s with regs := { s.regs with e := v } }
  | .h => { s with regs := { s.regs with h := v } }
  | .l => { s with regs := { s.regs with l := v } }
  | .a => { s with regs := { s.regs with a := v } }

/-- `rp[p]`, read. -/
def getRp (rp : RP) (s : State) : Word :=
  match rp with
  | .bc => s.bc
  | .de => s.de
  | .hl => s.hl
  | .sp => s.regs.sp

/-- `rp[p] <- v`. -/
def setRp (rp : RP) (v : Word) (s : State) : State :=
  match rp with
  | .bc => setBc v s
  | .de => setDe v s
  | .hl => setHl v s
  | .sp => setSp v s

/-- `rp2[p]`, read. -/
def getRp2 (rp2 : RP2) (s : State) : Word :=
  match rp2 with
  | .bc => s.bc
  | .de => s.de
  | .hl => s.hl
  | .af => s.af

/-- `rp2[p] <- v`. -/
def setRp2 (rp2 : RP2) (v : Word) (s : State) : State :=
  match rp2 with
  | .bc => setBc v s
  | .de => setDe v s
  | .hl => setHl v s
  | .af => setAf v s

/-! ### The DD/FD substitution (spec/30_encoding.md R320) -/

/-- `X`, read. -/
def getX (xy : XY) (s : State) : Word :=
  match xy with
  | .ix => s.regs.ix
  | .iy => s.regs.iy

/-- `X <- v`. -/
def setX (xy : XY) (v : Word) (s : State) : State :=
  match xy with
  | .ix => { s with regs := { s.regs with ix := v } }
  | .iy => { s with regs := { s.regs with iy := v } }

/-- `XH` or `XL`, read (spec/10_state.md R111). -/
def getHalf (xy : XY) (half : Half) (s : State) : Byte :=
  match half with
  | .hi => hi8 (getX xy s)
  | .lo => lo8 (getX xy s)

/-- `XH <- v` or `XL <- v`; the other half is kept (spec/10_state.md R101). -/
def setHalf (xy : XY) (half : Half) (v : Byte) (s : State) : State :=
  match half with
  | .hi => setX xy (mk16 v (lo8 (getX xy s))) s
  | .lo => setX xy (mk16 (hi8 (getX xy s)) v) s

/-- An 8-bit register operand of a form without a memory operand: `H` and `L` are `XH` and `XL` (R320, item 3). -/
def getRX (xy : XY) (r : R8) (s : State) : Byte :=
  match r with
  | .h => getHalf xy .hi s
  | .l => getHalf xy .lo s
  | .b | .c | .d | .e | .a => getR r s

/-- The destination of such a form (R320, item 3). -/
def setRX (xy : XY) (r : R8) (v : Byte) (s : State) : State :=
  match r with
  | .h => setHalf xy .hi v s
  | .l => setHalf xy .lo v s
  | .b | .c | .d | .e | .a => setR r v s

/-- A pair operand under a prefix: `HL` is `X` (R320, item 1). -/
def getRpX (xy : XY) (rp : RP) (s : State) : Word :=
  match rp with
  | .hl => getX xy s
  | .bc | .de | .sp => getRp rp s

/-- The effective address `X +16 sext_16(d)` (spec/30_encoding.md R304). -/
def indexAddress (xy : XY) (d : Byte) (s : State) : Word := getX xy s + sext16 d

/-- `WZ <- X +16 sext_16(d)` (spec/40_step_machine.md R406). -/
def formAddress (xy : XY) (d : Byte) (s : State) : State := setWz (indexAddress xy d s) s

/-! ### Control transfer and exchange -/

/-- `PC <- PC +16 sext_16(e)`, with PC already past the `e` byte (spec/30_encoding.md R304). -/
def jumpRelative (e : Byte) (s : State) : State := setPc (s.regs.pc + sext16 e) s

/-- The restart address `0x00:(y * 8)` (spec/30_encoding.md R304, spec/45_stack_control.md R634). -/
def restartAddress (y : BitVec 3) : Word := mk16 0x00#8 (mkOp 0 y 0)

/-- `IFF1 <- IFF2` (spec/45_stack_control.md R632, R633). -/
def restoreIff (s : State) : State := { s with regs := { s.regs with iff1 := s.regs.iff2 } }

/-- `(A, F, A', F') <- (A', F', A, F)` (spec/47_exchange_block.md R721). -/
def exchangeAf (s : State) : State :=
  { s with regs := { s.regs with a := hi8 s.regs.afShadow, f := lo8 s.regs.afShadow, afShadow := s.af } }

/-- `(DE, HL) <- (HL, DE)` (spec/47_exchange_block.md R720). -/
def exchangeDeHl (s : State) : State :=
  { s with regs := { s.regs with d := s.regs.h, e := s.regs.l, h := s.regs.d, l := s.regs.e } }

/-- `(BC, DE, HL, BC', DE', HL') <- (BC', DE', HL', BC, DE, HL)` (spec/47_exchange_block.md R722). -/
def exchangeMain (s : State) : State :=
  { s with regs := { s.regs with
      b := hi8 s.regs.bcShadow, c := lo8 s.regs.bcShadow, bcShadow := s.bc
      d := hi8 s.regs.deShadow, e := lo8 s.regs.deShadow, deShadow := s.de
      h := hi8 s.regs.hlShadow, l := lo8 s.regs.hlShadow, hlShadow := s.hl } }

/-- The 30-byte flat view of the register file, offset 0 first (spec/10_state.md R113). -/
def Regs.bytes (g : Regs) : List Byte :=
  [ lo8 g.pc, hi8 g.pc, g.r, g.i, lo8 g.wz, hi8 g.wz, lo8 g.sp, hi8 g.sp, lo8 g.ix, hi8 g.ix, lo8 g.iy, hi8 g.iy,
    g.c, g.b, g.e, g.d, g.l, g.h, g.f, g.a, lo8 g.bcShadow, hi8 g.bcShadow, lo8 g.deShadow, hi8 g.deShadow,
    lo8 g.hlShadow, hi8 g.hlShadow, lo8 g.afShadow, hi8 g.afShadow,
    if g.iff1 then 1 else 0, if g.iff2 then 1 else 0 ]

end Sys2Proof.Machine
end

