-- ==== Sys2Proof/Machine/Flags.lean ====
section
/-! DEFINITION. The flag/ALU engine (spec/41_flag_alu_engine.md R450 to R472): pure functions of the operands
and the old F. Carries and overflows come from exact integers, narrowed at the end. -/

namespace Sys2Proof.Machine

/-! ### The bits of F (spec/10_state.md R104) -/

/-- F from its bits 7 down to 0: S Z Y H X PV N C. -/
def mkF (s z y h x pv n c : Bool) : Byte :=
  BitVec.ofBool s ++ BitVec.ofBool z ++ BitVec.ofBool y ++ BitVec.ofBool h
    ++ BitVec.ofBool x ++ BitVec.ofBool pv ++ BitVec.ofBool n ++ BitVec.ofBool c

/-- `F.S` -/
def flagS (f : Byte) : Bool := f.getLsbD 7
/-- `F.Z` -/
def flagZ (f : Byte) : Bool := f.getLsbD 6
/-- `F.Y` -/
def flagY (f : Byte) : Bool := f.getLsbD 5
/-- `F.H` -/
def flagH (f : Byte) : Bool := f.getLsbD 4
/-- `F.X` -/
def flagX (f : Byte) : Bool := f.getLsbD 3
/-- `F.PV` -/
def flagPV (f : Byte) : Bool := f.getLsbD 2
/-- `F.N` -/
def flagN (f : Byte) : Bool := f.getLsbD 1
/-- `F.C` -/
def flagC (f : Byte) : Bool := f.getLsbD 0

/-! ### Helper values (R451) -/

/-- `S(v) = v[7]` -/
def signOf (v : Byte) : Bool := v.getLsbD 7
/-- `Z(v)` -/
def zeroOf (v : Byte) : Bool := v == 0
/-- `Y(v) = v[5]` -/
def mirror5 (v : Byte) : Bool := v.getLsbD 5
/-- `X(v) = v[3]` -/
def mirror3 (v : Byte) : Bool := v.getLsbD 3

/-- H of the functions R452 lists: the given half-carry under `PART`, 0 under `SOURCE`. -/
def half8 (cfg : Config) (h : Bool) : Bool :=
  match cfg.hMode with
  | .source => false
  | .part => h

/-- The bits of `mask` are free values under `UNDOC_FLAGS = DRAW` (spec/93_implementation_defined.md I6; log 4). -/
def undocumented (cfg : Config) (draw : Nat) (mask f : Byte) : Byte :=
  match cfg.undocFlags with
  | .values => f
  | .draw => (f &&& ~~~mask) ||| (Config.freeFlags draw &&& mask)

/-- Y and X of F. -/
def maskYX : Byte := 0x28#8

/-- Every bit of F but Z. -/
def maskNotZ : Byte := 0xBF#8

/-! ### The `alu` function (R453 to R456) -/

/-- `alu(ADD | ADC, a, b, F)` with the carry in (R453). -/
def add8 (cfg : Config) (a b : Byte) (cin : Bool) : Byte × Byte :=
  let r := a.toNat + b.toNat + cin.toNat
  let res := BitVec.ofNat 8 r
  let h := decide (15 < a.toNat % 16 + b.toNat % 16 + cin.toNat)
  let pv := a.getLsbD 7 == b.getLsbD 7 && res.getLsbD 7 != a.getLsbD 7
  (res, mkF (signOf res) (zeroOf res) (mirror5 res) (half8 cfg h) (mirror3 res) pv false (decide (255 < r)))

/-- `alu(SUB | SBC, a, b, F)` with the borrow in (R454). -/
def sub8 (cfg : Config) (a b : Byte) (cin : Bool) : Byte × Byte :=
  let r : Int := (a.toNat : Int) - b.toNat - cin.toNat
  let res := BitVec.ofInt 8 r
  let h := decide (a.toNat % 16 < b.toNat % 16 + cin.toNat)
  let pv := a.getLsbD 7 != b.getLsbD 7 && res.getLsbD 7 != a.getLsbD 7
  (res, mkF (signOf res) (zeroOf res) (mirror5 res) (half8 cfg h) (mirror3 res) pv true (decide (r < 0)))

/-- The flags of AND, XOR and OR (R455). -/
def logic8 (h : Bool) (res : Byte) : Byte × Byte :=
  (res, mkF (signOf res) (zeroOf res) (mirror5 res) h (mirror3 res) (parity res) false false)

/-- F after `alu(CP, a, b, F)` (R456). -/
def compare8 (cfg : Config) (a b : Byte) : Byte :=
  let f := (sub8 cfg a b false).2
  match cfg.cpXy with
  | .result => f
  | .operand => mkF (flagS f) (flagZ f) (mirror5 b) (flagH f) (mirror3 b) (flagPV f) (flagN f) (flagC f)

/-- `alu(op, a, b, F)`: the new A (the old one for CP) and the new F (R453 to R456). -/
def alu (cfg : Config) (op : AluOp) (a b f : Byte) : Byte × Byte :=
  match op with
  | .add => add8 cfg a b false
  | .adc => add8 cfg a b (flagC f)
  | .sub => sub8 cfg a b false
  | .sbc => sub8 cfg a b (flagC f)
  | .and => logic8 true (a &&& b)
  | .xor => logic8 false (a ^^^ b)
  | .or => logic8 false (a ||| b)
  | .cp => (a, compare8 cfg a b)

/-! ### Increment, decrement, negate, decimal adjust, accumulator flags -/

/-- `inc8(v, F)` (R457). -/
def inc8 (cfg : Config) (v f : Byte) : Byte × Byte :=
  let res := v + 1
  (res, mkF (signOf res) (zeroOf res) (mirror5 res) (half8 cfg (v.toNat % 16 == 15)) (mirror3 res) (v == 0x7F#8)
    false (flagC f))

/-- `dec8(v, F)` (R458). -/
def dec8 (cfg : Config) (v f : Byte) : Byte × Byte :=
  let res := v - 1
  (res, mkF (signOf res) (zeroOf res) (mirror5 res) (half8 cfg (v.toNat % 16 == 0)) (mirror3 res) (v == 0x80#8)
    true (flagC f))

/-- `neg(v, F)` (R466). -/
def neg8 (cfg : Config) (v : Byte) : Byte × Byte := sub8 cfg 0 v false

/-- `daa(a, F)` (R465). -/
def daa (a f : Byte) : Byte × Byte :=
  let high := flagC f || decide (0x99 < a.toNat)
  let low := flagH f || decide (9 < a.toNat % 16)
  let diff : Byte := (if high then 0x60#8 else 0) ||| (if low then 0x06#8 else 0)
  let res := if flagN f then a - diff else a + diff
  let h := if flagN f then flagH f && decide (a.toNat % 16 < 6) else decide (9 < a.toNat % 16)
  (res, mkF (signOf res) (zeroOf res) (mirror5 res) h (mirror3 res) (parity res) (flagN f) high)

/-- `cpl(a, F)` (R472). -/
def cpl (a f : Byte) : Byte × Byte :=
  let res := ~~~a
  (res, mkF (flagS f) (flagZ f) (mirror5 res) true (mirror3 res) (flagPV f) true (flagC f))

/-- `scf(a, F)` (R472). -/
def scf (cfg : Config) (draw : Nat) (a f : Byte) : Byte :=
  undocumented cfg draw maskYX
    (mkF (flagS f) (flagZ f) (mirror5 a) false (mirror3 a) (flagPV f) false true)

/-- `ccf(a, F)` (R472). -/
def ccf (cfg : Config) (draw : Nat) (a f : Byte) : Byte :=
  undocumented cfg draw maskYX
    (mkF (flagS f) (flagZ f) (mirror5 a) (flagC f) (mirror3 a) (flagPV f) false (!flagC f))

/-! ### Rotate, shift and bit test -/

/-- The result and the bit carried out of `rot[k]` (the table of R459). -/
def rotate (k : RotOp) (v : Byte) (cin : Bool) : Byte × Bool :=
  match k with
  | .rlc => ((v <<< 1) ||| (v >>> 7), v.getLsbD 7)
  | .rrc => ((v >>> 1) ||| (v <<< 7), v.getLsbD 0)
  | .rl  => ((v <<< 1) ||| (if cin then 0x01#8 else 0), v.getLsbD 7)
  | .rr  => ((v >>> 1) ||| (if cin then 0x80#8 else 0), v.getLsbD 0)
  | .sla => (v <<< 1, v.getLsbD 7)
  | .sra => ((v >>> 1) ||| (v &&& 0x80#8), v.getLsbD 0)
  | .sll => ((v <<< 1) ||| 0x01#8, v.getLsbD 7)
  | .srl => (v >>> 1, v.getLsbD 0)

/-- `rot(k, v, F)`, the full flag form (R459). -/
def rot (k : RotOp) (v f : Byte) : Byte × Byte :=
  let (res, c) := rotate k v (flagC f)
  (res, mkF (signOf res) (zeroOf res) (mirror5 res) false (mirror3 res) (parity res) false c)

/-- `rota(k, a, F)`, the reduced accumulator form (R460). -/
def rota (k : RotOp) (a f : Byte) : Byte × Byte :=
  let (res, c) := rotate k a (flagC f)
  (res, mkF (flagS f) (flagZ f) (mirror5 res) false (mirror3 res) (flagPV f) false c)

/-- `bit(n, v, F)` (R461). -/
def bitTest (n : BitVec 3) (v f : Byte) : Byte :=
  let t := v.getLsbD n.toNat
  mkF (n == 7 && t) (!t) (mirror5 v) true (mirror3 v) (!t) false (flagC f)

/-- `v & ~(1 << y)` (spec/46_rotate_bit.md R684). -/
def resBit (y : BitVec 3) (v : Byte) : Byte := v &&& ~~~((1 : Byte) <<< y.toNat)

/-- `v | (1 << y)` (spec/46_rotate_bit.md R685). -/
def setBit (y : BitVec 3) (v : Byte) : Byte := v ||| ((1 : Byte) <<< y.toNat)

/-- What RLD stores (spec/46_rotate_bit.md R686). -/
def rldMemory (a m : Byte) : Byte := ((m <<< 4) &&& 0xF0#8) ||| (a &&& 0x0F#8)
/-- A after RLD (spec/46_rotate_bit.md R686). -/
def rldAccumulator (a m : Byte) : Byte := (a &&& 0xF0#8) ||| (m >>> 4)
/-- What RRD stores (spec/46_rotate_bit.md R687). -/
def rrdMemory (a m : Byte) : Byte := ((a &&& 0x0F#8) <<< 4) ||| (m >>> 4)
/-- A after RRD (spec/46_rotate_bit.md R687). -/
def rrdAccumulator (a m : Byte) : Byte := (a &&& 0xF0#8) ||| (m &&& 0x0F#8)

/-! ### 16-bit arithmetic -/

/-- `add16(a, b, F)` (R462). -/
def add16 (a b : Word) (f : Byte) : Word × Byte :=
  let r := a.toNat + b.toNat
  let res := BitVec.ofNat 16 r
  let h := decide (0x0FFF < a.toNat % 4096 + b.toNat % 4096)
  (res, mkF (flagS f) (flagZ f) (res.getLsbD 13) h (res.getLsbD 11) (flagPV f) false (decide (65535 < r)))

/-- `adc16(a, b, F)` (R463). -/
def adc16 (a b : Word) (f : Byte) : Word × Byte :=
  let r := a.toNat + b.toNat + (flagC f).toNat
  let res := BitVec.ofNat 16 r
  let h := decide (0x0FFF < a.toNat % 4096 + b.toNat % 4096 + (flagC f).toNat)
  let pv := a.getLsbD 15 == b.getLsbD 15 && res.getLsbD 15 != a.getLsbD 15
  (res, mkF (res.getLsbD 15) (res == 0) (res.getLsbD 13) h (res.getLsbD 11) pv false (decide (65535 < r)))

/-- `sbc16(a, b, F)` (R464). -/
def sbc16 (a b : Word) (f : Byte) : Word × Byte :=
  let r : Int := (a.toNat : Int) - b.toNat - (flagC f).toNat
  let res := BitVec.ofInt 16 r
  let h := decide (a.toNat % 4096 < b.toNat % 4096 + (flagC f).toNat)
  let pv := a.getLsbD 15 != b.getLsbD 15 && res.getLsbD 15 != a.getLsbD 15
  (res, mkF (res.getLsbD 15) (res == 0) (res.getLsbD 13) h (res.getLsbD 11) pv true (decide (r < 0)))

/-! ### Block instructions and the rest -/

/-- `ldblock(v, a, bc', F)` (R467). -/
def ldblock (cfg : Config) (draw : Nat) (v a : Byte) (bc : Word) (f : Byte) : Byte :=
  let n := v + a
  undocumented cfg draw maskYX
    (mkF (flagS f) (flagZ f) (n.getLsbD 1) false (n.getLsbD 3) (bc != 0) false (flagC f))

/-- `cpblock(v, a, bc', F)` (R468). -/
def cpblock (cfg : Config) (draw : Nat) (v a : Byte) (bc : Word) (f : Byte) : Byte :=
  let res := a - v
  let h := half8 cfg (decide (a.toNat % 16 < v.toNat % 16))
  let n := res - (if h then 1 else 0)
  undocumented cfg draw maskYX
    (mkF (signOf res) (zeroOf res) (n.getLsbD 1) h (n.getLsbD 3) (bc != 0) true (flagC f))

/-- `ioblock(v, b', k, F)` (R469). -/
def ioblock (cfg : Config) (draw : Nat) (v b : Byte) (k : Nat) : Byte :=
  let c := decide (255 < k)
  undocumented cfg draw maskNotZ
    (mkF (signOf b) (zeroOf b) (mirror5 b) c (mirror3 b) (parity (BitVec.ofNat 8 (k % 8) ^^^ b)) (v.getLsbD 7) c)

/-- `szp(v, pv, F)` (R471). -/
def szp (v : Byte) (pv : Bool) (f : Byte) : Byte :=
  mkF (signOf v) (zeroOf v) (mirror5 v) false (mirror3 v) pv false (flagC f)

/-- `cond(cc, F)` (R470). -/
def cond (cfg : Config) (cc : CC) (f : Byte) : Bool :=
  match cc with
  | .nz => !flagZ f
  | .z => flagZ f
  | .nc => !flagC f
  | .c => flagC f
  | .po => !flagPV f
  | .pe => flagPV f
  | .p =>
    match cfg.pmMode with
    | .part => !flagS f
    | .source srcBit srcSet => f.getLsbD srcBit.val == srcSet
  | .m =>
    match cfg.pmMode with
    | .part => flagS f
    | .source srcBit srcSet => f.getLsbD srcBit.val == srcSet

/-- `cc[y-4]` of `JR cc,e` (R470). -/
def jumpCondition (cc : JCC) : CC :=
  match cc with
  | .nz => .nz
  | .z => .z
  | .nc => .nc
  | .c => .c

end Sys2Proof.Machine
end

