-- ==== Sys2Proof/Machine/Ops.lean ====
section
/-! DEFINITION. The named operations of the step machine (spec/40_step_machine.md): bus requests, hold, done, one
bus cycle, running an instruction's steps, the unimplemented-opcode outcome, and the writes through the flag/ALU
engine. -/

namespace Sys2Proof.Machine

/-- An instruction as its steps after the last operand byte is fetched, in order (spec/40_step_machine.md R411). -/
abbrev Program := List StepFn

/-- What an instruction's meaning answers. -/
abbrev Result := Host.Outcome State Fault Refusal

/-! ### What a step may do (spec/40_step_machine.md R402 to R405) -/

/-- Request a memory read at `a` (R403). -/
def reqRead (a : Word) (s : State) : State :=
  { s with seq := { s.seq with nextCycle := .read, nextAddr := a } }

/-- Request a memory write of `v` at `a` (R403). -/
def reqWrite (a : Word) (v : Byte) (s : State) : State :=
  { s with seq := { s.seq with nextCycle := .write, nextAddr := a, nextData := v } }

/-- Request an I/O read at a port (R403). -/
def reqIoRead (port : Word) (s : State) : State :=
  { s with seq := { s.seq with nextCycle := .ioRead, nextAddr := port } }

/-- Request an I/O write of `v` at a port (R403). -/
def reqIoWrite (port : Word) (v : Byte) (s : State) : State :=
  { s with seq := { s.seq with nextCycle := .ioWrite, nextAddr := port, nextData := v } }

/-- Request `n` internal T-states (R403). -/
def reqExec (n : Nat) (s : State) : State :=
  { s with seq := { s.seq with nextCycle := .exec, nextLen := n } }

/-- Adds T-states to the newest cycle of the record. -/
def lengthenLast (n : Nat) : List BusEvent → List BusEvent
  | [] => []
  | e :: es => { e with tStates := e.tStates + n } :: es

/-- Hold for `n` T-states (R405): the cycle that ended grows by `n`. -/
def holdFor (n : Nat) (s : State) : State :=
  { s with seq := { s.seq with hold := true, holdLeft := 2 * n }, bus := lengthenLast n s.bus }

/-- Signal done (R404): `step <- 0`, `prefix <- NONE`, the next cycle is a FETCH at PC. WZ is then a free value
(spec/10_state.md R112; log 5). -/
def signalDone (s : State) : State :=
  { s with
    latch := .none
    seq := { s.seq with step := 0, done := true, nextCycle := .fetch }
    regs := { s.regs with wz := Config.freeLatch s.draws }
    draws := s.draws + 1 }

/-- `prefix <- l` (R409). -/
def setLatch (l : Latch) (s : State) : State := { s with latch := l }

/-- Request the next operand byte at PC and advance PC in the same step (R403). -/
def requestOperand (s : State) : State := setPc (s.regs.pc + 1) (reqRead s.regs.pc s)

/-- `Z <- data_in` (R406). -/
def takeLow (s : State) : State := setWz (mk16 (hi8 s.regs.wz) s.seq.dataIn) s

/-- `W <- data_in` (R406). -/
def takeHigh (s : State) : State := setWz (mk16 s.seq.dataIn (lo8 s.regs.wz)) s

/-- The decode fields of an opcode byte (spec/30_encoding.md R302). -/
def fieldsOf (op : Byte) : Fields where
  x := opX op
  y := opY op
  z := opZ op
  p := opP op
  q := opQ op

/-- Recompute the decode fields (spec/30_encoding.md R303). -/
def setFields (op : Byte) (s : State) : State := { s with fields := fieldsOf op }

/-- `R <- (R & 0x80) | ((R + 1) & 0x7F)` (spec/10_state.md R109). -/
def nextRefresh (r : Byte) : Byte := (r &&& 0x80#8) ||| ((r + 1) &&& 0x7F#8)

/-- The register updates of a FETCH, and the decode fields of its byte (R416, R400). -/
def fetchUpdates (s : State) : State :=
  setFields s.seq.dataIn (setRefresh (nextRefresh s.regs.r) (setPc (s.regs.pc + 1) s))

/-! ### Transactions with the platform (spec/20_memory.md R200, spec/92_eei_decisions.md D29) -/

/-- Append a cycle to the record. -/
def record (kind : Cycle) (addr : Word) (data : Byte) (tStates : Nat) (s : State) : State :=
  { s with bus := ⟨kind, addr, data, tStates⟩ :: s.bus }

/-- The platform's answer to a FETCH or READ at an address: the tape first, then the memory. It need not be the byte
last written there (spec/20_memory.md R200; log 2). -/
def memAnswer (addr : Word) (s : State) : Byte :=
  match s.memTape with
  | [] => s.mem.read addr
  | v :: _ => v

/-- One answer is taken from the tape, if it holds one. -/
def advanceMem (s : State) : State := { s with memTape := s.memTape.tail }

/-- What the `k`-th FETCH or READ from now is answered at an address, when no store comes before it. -/
def upcoming (k : Nat) (addr : Word) (s : State) : Byte := memAnswer addr { s with memTape := s.memTape.drop k }

/-- A memory byte is sampled (spec/20_memory.md R233). -/
def sampleMemory (kind : Cycle) (addr : Word) (tStates : Nat) (s : State) : State :=
  let v := memAnswer addr s
  record kind addr v tStates (advanceMem { s with seq := { s.seq with dataIn := v } })

/-- A memory byte is stored. -/
def storeMemory (addr : Word) (v : Byte) (s : State) : State :=
  record .write addr v 3 { s with mem := s.mem.write addr v }

/-- The platform's answer at a port: the tape first, then the oracle (log 2). -/
def portAnswer (port : Word) (s : State) : Byte :=
  match s.ioTape with
  | [] => s.ioIn.answer port
  | v :: _ => v

/-- A port is sampled. -/
def samplePort (port : Word) (s : State) : State :=
  let v := portAnswer port s
  record .ioRead port v 4 { s with ioTape := s.ioTape.tail, seq := { s.seq with dataIn := v } }

/-- A byte is driven to a port: the platform logs it (spec/92_eei_decisions.md D29). -/
def drivePort (port : Word) (v : Byte) (s : State) : State := record .ioWrite port v 4 s

/-- The requested transaction, whole (spec/20_memory.md R238). A FETCH is never requested (R403). -/
def transact (s : State) : State :=
  match s.seq.nextCycle with
  | .fetch => s
  | .read => sampleMemory .read s.seq.nextAddr 3 s
  | .write => storeMemory s.seq.nextAddr s.seq.nextData s
  | .ioRead => samplePort s.seq.nextAddr s
  | .ioWrite => drivePort s.seq.nextAddr s.seq.nextData s
  | .exec => record .exec 0 0 s.seq.nextLen s

/-- The hold and the done signal have been seen (R404, R405). -/
def settle (s : State) : State :=
  { s with seq := { s.seq with hold := false, holdLeft := 0, done := false } }

/-- One requested bus cycle at the instruction level: the hold elapses, the transaction happens and the step counter
advances (R401). -/
def busCycle (s : State) : State :=
  let s := transact (settle s)
  { s with seq := { s.seq with step := s.seq.step + 1 } }

/-! ### Running an instruction (R411) -/

/-- The steps in order, a bus cycle between two of them, until one signals done (R411). -/
def runSteps : Program → State → State
  | [], s => settle s
  | [f], s => settle (f s)
  | f :: g :: rest, s =>
    let s := f s
    if s.seq.done then settle s else runSteps (g :: rest) (busCycle s)

/-- The meaning of an instruction from its steps, which begin with no hold and no done pending. -/
def run (p : Program) (s : State) : Result := .next (runSteps p (settle s))

/-! ### The exception-like outcome (R412, spec/60_exceptions.md R801)

It is the core's one event of the kind: no event saves state or transfers control to a handler
(spec/60_exceptions.md R806), so there is no entry and no return from one beyond the instructions themselves. -/

/-- Enter the halted state (R413). -/
def enterHalted (s : State) : State := { s with halted := true }

/-- `raise Unimplemented(code)` (R412): the record keeps the first code; then `UNIMPL_POLICY`. -/
def raiseUnimplemented (code : Word) (s : State) : State :=
  let s := { s with unimplSeen := true, unimplOp := if s.unimplSeen then s.unimplOp else code }
  match s.cfg.unimplPolicy with
  | .nopFlag => s
  | .fault => enterHalted s

/-! ### Writes through the flag/ALU engine (spec/41_flag_alu_engine.md) -/

/-- The condition on the present F (R470). -/
def condition (cc : CC) (s : State) : Bool := cond s.cfg cc s.regs.f

/-- `(A, F) <- alu(op, A, v, F)`; CP writes F only (R453 to R456). -/
def applyAlu (op : AluOp) (v : Byte) (s : State) : State :=
  let (res, f) := alu s.cfg op s.regs.a v s.regs.f
  setR .a res (setF f s)

/-- An operation on a byte whose result is put back by the caller: the byte read, where to put the result. -/
abbrev Rmw := Byte → (Byte → StepFn) → StepFn

/-- `(res, F) <- inc8(v, F)` (R457). -/
def applyInc8 : Rmw := fun v put s =>
  let (res, f) := inc8 s.cfg v s.regs.f
  put res (setF f s)

/-- `(res, F) <- dec8(v, F)` (R458). -/
def applyDec8 : Rmw := fun v put s =>
  let (res, f) := dec8 s.cfg v s.regs.f
  put res (setF f s)

/-- `(res, F) <- rot(k, v, F)` (R459). -/
def applyRot (k : RotOp) : Rmw := fun v put s =>
  let (res, f) := rot k v s.regs.f
  put res (setF f s)

/-- `res <- v & ~(1 << y)`, no flag (spec/46_rotate_bit.md R684). -/
def applyRes (y : BitVec 3) : Rmw := fun v put s => put (resBit y v) s

/-- `res <- v | (1 << y)`, no flag (spec/46_rotate_bit.md R685). -/
def applySet (y : BitVec 3) : Rmw := fun v put s => put (setBit y v) s

/-- `F <- bit(y, v, F)` (R461). -/
def applyBit (y : BitVec 3) (v : Byte) (s : State) : State := setF (bitTest y v s.regs.f) s

/-- `(A, F) <- rota(k, A, F)` (R460). -/
def applyRota (k : RotOp) (s : State) : State :=
  let (res, f) := rota k s.regs.a s.regs.f
  setR .a res (setF f s)

/-- `(A, F) <- daa(A, F)` (R465). -/
def applyDaa (s : State) : State :=
  let (res, f) := daa s.regs.a s.regs.f
  setR .a res (setF f s)

/-- `(A, F) <- cpl(A, F)` (R472). -/
def applyCpl (s : State) : State :=
  let (res, f) := cpl s.regs.a s.regs.f
  setR .a res (setF f s)

/-- `(A, F) <- neg(A, F)` (R466). -/
def applyNeg (s : State) : State :=
  let (res, f) := neg8 s.cfg s.regs.a
  setR .a res (setF f s)

/-- `F <- scf(A, F)` (R472). -/
def applyScf (s : State) : State := setF (scf s.cfg s.draws s.regs.a s.regs.f) s

/-- `F <- ccf(A, F)` (R472). -/
def applyCcf (s : State) : State := setF (ccf s.cfg s.draws s.regs.a s.regs.f) s

/-- `F <- szp(v, pv, F)` (R471). -/
def applySzp (v : Byte) (pv : Bool) (s : State) : State := setF (szp v pv s.regs.f) s

/-- `(res, F) <- add16(a, b, F)` (R462). -/
def applyAdd16 (a b : Word) (put : Word → StepFn) (s : State) : State :=
  let (res, f) := add16 a b s.regs.f
  put res (setF f s)

/-- `(HL, F) <- adc16(HL, b, F)` (R463). -/
def applyAdc16 (b : Word) (s : State) : State :=
  let (res, f) := adc16 s.hl b s.regs.f
  setHl res (setF f s)

/-- `(HL, F) <- sbc16(HL, b, F)` (R464). -/
def applySbc16 (b : Word) (s : State) : State :=
  let (res, f) := sbc16 s.hl b s.regs.f
  setHl res (setF f s)

end Sys2Proof.Machine
end

