-- ==== Sys2Proof/Machine/Shapes.lean ====
section
/-! DEFINITION. The step sequences instructions share (spec/40_step_machine.md R411, R415). Each list is the steps
of an instruction from the one that ends its last opcode or operand byte on; a comment on a shape gives the cycles
it adds. -/

namespace Sys2Proof.Machine

/-- One final step, no further cycle (R408). -/
def single (f : StepFn) : Program := [fun s => signalDone (f s)]

/-- One final step that holds for `n` T-states (R408). -/
def singleHold (n : Nat) (f : StepFn) : Program := [fun s => signalDone (f (holdFor n s))]

/-- `E4 E3`, then the operation (spec/44_arith16.md). -/
def wide16 (f : StepFn) : Program := [reqExec 4, reqExec 3, fun s => signalDone (f s)]

/-- `R3`: a byte read and used. -/
def readAt (addr : State → Word) (f : Byte → StepFn) : Program :=
  [ fun s => reqRead (addr s) s,
    fun s => signalDone (f s.seq.dataIn s) ]

/-- `W3`: a byte written. -/
def writeAt (addr : State → Word) (value : State → Byte) : Program :=
  [fun s => reqWrite (addr s) (value s) s, signalDone]

/-- `R3 R3`: a pair from `nn` and `nn +16 1`, low byte first (spec/20_memory.md R204). -/
def readPairAt (nn : Word) (put : Word → StepFn) : Program :=
  [ reqRead nn,
    fun s => reqRead (nn + 1) (takeLow s),
    fun s => signalDone (put (mk16 s.seq.dataIn (lo8 s.regs.wz)) s) ]

/-- `W3 W3`: a pair to `nn` and `nn +16 1`, low byte first (spec/20_memory.md R204). -/
def writePairAt (nn : Word) (get : State → Word) : Program :=
  [ fun s => reqWrite nn (lo8 (get s)) s,
    fun s => reqWrite (nn + 1) (hi8 (get s)) s,
    signalDone ]

/-- `E5 R3`: a byte read at `X+d` and used (spec/42_load.md R503). -/
def readAtXy (xy : XY) (d : Byte) (f : Byte → StepFn) : Program :=
  [ fun s => reqExec 5 (formAddress xy d s),
    fun s => reqRead s.regs.wz s,
    fun s => signalDone (f s.seq.dataIn s) ]

/-- `E5 W3`: a byte written at `X+d` (spec/42_load.md R505). -/
def writeAtXy (xy : XY) (d : Byte) (value : State → Byte) : Program :=
  [ fun s => reqExec 5 (formAddress xy d s),
    fun s => reqWrite s.regs.wz (value s) s,
    signalDone ]

/-- `R4 W3`: read, hold one while mutating, write back (spec/43_alu8.md R560, spec/46_rotate_bit.md R674). -/
def rmwAtHl (op : Rmw) : Program :=
  [ fun s => reqRead s.hl s,
    fun s => op s.seq.dataIn (fun res t => reqWrite t.hl res t) (holdFor 1 s),
    signalDone ]

/-- `E5 R4 W3` at `X+d` (spec/43_alu8.md R561). -/
def rmwAtXy (xy : XY) (d : Byte) (op : Rmw) : Program :=
  [ fun s => reqExec 5 (formAddress xy d s),
    fun s => reqRead s.regs.wz s,
    fun s => op s.seq.dataIn (fun res t => reqWrite t.regs.wz res t) (holdFor 1 s),
    signalDone ]

/-- The copy of a DDCB/FDCB result into `r[z]`; `H` and `L` are not substituted (spec/30_encoding.md R322). -/
def copyResult (copy : Option R8) (v : Byte) (s : State) : State :=
  match copy with
  | none => s
  | some r => setR r v s

/-- `+2` on the `op` read, then `R4 W3` at `X+d`, and the copy (spec/40_step_machine.md R410). -/
def rmwXyCb (xy : XY) (d : Byte) (copy : Option R8) (op : Rmw) : Program :=
  [ fun s => let s := holdFor 2 (formAddress xy d s)
             reqRead s.regs.wz s,
    fun s => op s.seq.dataIn (fun res t => reqWrite t.regs.wz res t) (holdFor 1 s),
    fun s => signalDone (copyResult copy s.seq.nextData s) ]

/-! ### The stack (spec/20_memory.md R205) -/

/-- The first WRITE of a push of `v`. -/
def reqPushFirst (v : Word) (s : State) : State :=
  match s.cfg.pushOrder with
  | .lowFirst => reqWrite (s.regs.sp - 2) (lo8 v) s
  | .highFirst => reqWrite (s.regs.sp - 1) (hi8 v) s

/-- The second WRITE of a push of `v`. -/
def reqPushSecond (v : Word) (s : State) : State :=
  match s.cfg.pushOrder with
  | .lowFirst => reqWrite (s.regs.sp - 1) (hi8 v) s
  | .highFirst => reqWrite (s.regs.sp - 2) (lo8 v) s

/-- The steps of a push after the one that requests its first WRITE (spec/40_step_machine.md R415). -/
def pushRest (v : State → Word) (after : StepFn) : Program :=
  [ fun s => reqPushSecond (v s) s,
    fun s => signalDone (after (setSp (s.regs.sp - 2) s)) ]

/-- `+1 W3 W3`: `Internal(1); Push16(v)`, then the rest. -/
def pushThen (v : State → Word) (after : StepFn) : Program :=
  (fun s => reqPushFirst (v s) (holdFor 1 s)) :: pushRest v after

/-- The steps of a pop after the one that requests its first READ. -/
def popRest (put : Word → StepFn) : Program :=
  [ fun s => reqRead (s.regs.sp + 1) (takeLow s),
    fun s => signalDone (put (mk16 s.seq.dataIn (lo8 s.regs.wz)) (setSp (s.regs.sp + 2) s)) ]

/-- `R3 R3`: `put(Pop16())`. -/
def popInto (put : Word → StepFn) : Program := (fun s => reqRead s.regs.sp s) :: popRest put

/-- The first WRITE of `EX (SP),HL`. -/
def reqExchangeFirst (v : Word) (s : State) : State :=
  match s.cfg.pushOrder with
  | .lowFirst => reqWrite s.regs.sp (lo8 v) s
  | .highFirst => reqWrite (s.regs.sp + 1) (hi8 v) s

/-- The second WRITE of `EX (SP),HL`. -/
def reqExchangeSecond (v : Word) (s : State) : State :=
  match s.cfg.pushOrder with
  | .lowFirst => reqWrite (s.regs.sp + 1) (hi8 v) s
  | .highFirst => reqWrite s.regs.sp (lo8 v) s

/-- `R3 R4 W3 W5` (spec/47_exchange_block.md R723). -/
def exchangeAtSp (get : State → Word) (put : Word → StepFn) : Program :=
  [ fun s => reqRead s.regs.sp s,
    fun s => reqRead (s.regs.sp + 1) (takeLow s),
    fun s => reqExchangeFirst (get s) (holdFor 1 (takeHigh s)),
    fun s => reqExchangeSecond (get s) s,
    fun s => signalDone (put s.regs.wz (holdFor 2 s)) ]

/-! ### Digit rotates and block instructions -/

/-- `R3 E4 W3` (spec/46_rotate_bit.md R686, R687). -/
def digitRotate (memory accumulator : Byte → Byte → Byte) : Program :=
  [ fun s => reqRead s.hl s,
    reqExec 4,
    fun s => reqWrite s.hl (memory s.regs.a s.seq.dataIn) s,
    fun s =>
      let v := accumulator s.regs.a s.seq.dataIn
      signalDone (applySzp v (parity v) (setR .a v s)) ]

/-- A repeating form goes on with `E5`; otherwise the instruction is done (spec/47_exchange_block.md). -/
def repeatOrDone (again : Bool) (s : State) : State := if again then reqExec 5 s else signalDone s

/-- `PC <- PC -16 2` after the `E5` of a repetition (spec/70_reset_and_hazards.md R862). -/
def refetch (s : State) : State := signalDone (setPc (s.regs.pc - 2) s)

/-- `R3 W5`, and `E5` on a repetition (spec/47_exchange_block.md R724 to R727). -/
def blockLoad (inc : Word) (repeats : Bool) : Program :=
  [ fun s => reqRead s.hl s,
    fun s => reqWrite s.de s.seq.dataIn s,
    fun s =>
      let s := holdFor 2 s
      let s := setBc (s.bc - 1) (setDe (s.de + inc) (setHl (s.hl + inc) s))
      let s := setF (ldblock s.cfg s.draws s.seq.dataIn s.regs.a s.bc s.regs.f) s
      repeatOrDone (repeats && s.bc != 0) s,
    refetch ]

/-- `R3 E5`, and `E5` on a repetition (spec/47_exchange_block.md R728 to R731). -/
def blockCompare (inc : Word) (repeats : Bool) : Program :=
  [ fun s => reqRead s.hl s,
    reqExec 5,
    fun s =>
      let s := setBc (s.bc - 1) (setHl (s.hl + inc) s)
      let s := setF (cpblock s.cfg s.draws s.seq.dataIn s.regs.a s.bc s.regs.f) s
      repeatOrDone (repeats && s.bc != 0 && !flagZ s.regs.f) s,
    refetch ]

/-- `+1 I4 W3`, and `E5` on a repetition (spec/48_io.md R756 to R759). -/
def blockIn (inc : Word) (repeats : Bool) : Program :=
  [ fun s => reqIoRead s.bc (holdFor 1 s),
    fun s => reqWrite s.hl s.seq.dataIn s,
    fun s =>
      let v := s.seq.dataIn
      let s := setHl (s.hl + inc) (setR .b (s.regs.b - 1) s)
      let k := v.toNat + (s.regs.c + lo8 inc).toNat
      let s := setF (ioblock s.cfg s.draws v s.regs.b k) s
      repeatOrDone (repeats && s.regs.b != 0) s,
    refetch ]

/-- `+1 R3 O4`, and `E5` on a repetition (spec/48_io.md R760 to R763). -/
def blockOut (inc : Word) (repeats : Bool) : Program :=
  [ fun s => reqRead s.hl (holdFor 1 s),
    fun s =>
      let s := setR .b (s.regs.b - 1) s
      reqIoWrite s.bc s.seq.dataIn s,
    fun s =>
      let v := s.seq.dataIn
      let s := setHl (s.hl + inc) s
      let k := v.toNat + s.regs.l.toNat
      let s := setF (ioblock s.cfg s.draws v s.regs.b k) s
      repeatOrDone (repeats && s.regs.b != 0) s,
    refetch ]

end Sys2Proof.Machine
end

