-- ==== Sys2Proof/Machine/Alu8.lean ====
section
/-! DEFINITION. 8-bit arithmetic and logic (spec/43_alu8.md). Each instruction has its steps after the last opcode or operand byte
(`prog…`, spec/40_step_machine.md R411), which the edge-level machine runs one by one, and its meaning (`exec…`),
which runs them all. -/

namespace Sys2Proof.Machine

/-- `INC r` (spec/43_alu8.md R559): `F4`. -/
def progIncR (r : R8) : Program := single (fun s => applyInc8 (getR r s) (setR r) s)

/-- The meaning of `INC r`. -/
def execIncR (r : R8) (s : State) : Result := run (progIncR r) s

/-- `INC (HL)` (spec/43_alu8.md R560): `F4 R4 W3`. -/
def progIncAtHl : Program := rmwAtHl applyInc8

/-- The meaning of `INC (HL)`. -/
def execIncAtHl (s : State) : Result := run progIncAtHl s

/-- `DEC r` (spec/43_alu8.md R562): `F4`. -/
def progDecR (r : R8) : Program := single (fun s => applyDec8 (getR r s) (setR r) s)

/-- The meaning of `DEC r`. -/
def execDecR (r : R8) (s : State) : Result := run (progDecR r) s

/-- `DEC (HL)` (spec/43_alu8.md R563): `F4 R4 W3`. -/
def progDecAtHl : Program := rmwAtHl applyDec8

/-- The meaning of `DEC (HL)`. -/
def execDecAtHl (s : State) : Result := run progDecAtHl s

/-- `DAA` (spec/43_alu8.md R565): `F4`. -/
def progDaa : Program := single applyDaa

/-- The meaning of `DAA`. -/
def execDaa (s : State) : Result := run progDaa s

/-- `CPL` (spec/43_alu8.md R566): `F4`. -/
def progCpl : Program := single applyCpl

/-- The meaning of `CPL`. -/
def execCpl (s : State) : Result := run progCpl s

/-- `SCF` (spec/43_alu8.md R569): `F4`. -/
def progScf : Program := single applyScf

/-- The meaning of `SCF`. -/
def execScf (s : State) : Result := run progScf s

/-- `CCF` (spec/43_alu8.md R568): `F4`. -/
def progCcf : Program := single applyCcf

/-- The meaning of `CCF`. -/
def execCcf (s : State) : Result := run progCcf s

/-- `ADD A,r` (spec/43_alu8.md R551): `F4`. -/
def progAddAR (r : R8) : Program := single (fun s => applyAlu .add (getR r s) s)

/-- The meaning of `ADD A,r`. -/
def execAddAR (r : R8) (s : State) : Result := run (progAddAR r) s

/-- `ADD A,(HL)` (spec/43_alu8.md R551): `F4 R3`. -/
def progAddAAtHl : Program := readAt State.hl (applyAlu .add)

/-- The meaning of `ADD A,(HL)`. -/
def execAddAAtHl (s : State) : Result := run progAddAAtHl s

/-- `ADD A,n` (spec/43_alu8.md R551): `F4 R3`. -/
def progAddAN (n : Byte) : Program := single (applyAlu .add n)

/-- The meaning of `ADD A,n`. -/
def execAddAN (n : Byte) (s : State) : Result := run (progAddAN n) s

/-- `ADC A,r` (spec/43_alu8.md R552): `F4`. -/
def progAdcAR (r : R8) : Program := single (fun s => applyAlu .adc (getR r s) s)

/-- The meaning of `ADC A,r`. -/
def execAdcAR (r : R8) (s : State) : Result := run (progAdcAR r) s

/-- `ADC A,(HL)` (spec/43_alu8.md R552): `F4 R3`. -/
def progAdcAAtHl : Program := readAt State.hl (applyAlu .adc)

/-- The meaning of `ADC A,(HL)`. -/
def execAdcAAtHl (s : State) : Result := run progAdcAAtHl s

/-- `ADC A,n` (spec/43_alu8.md R552): `F4 R3`. -/
def progAdcAN (n : Byte) : Program := single (applyAlu .adc n)

/-- The meaning of `ADC A,n`. -/
def execAdcAN (n : Byte) (s : State) : Result := run (progAdcAN n) s

/-- `SUB r` (spec/43_alu8.md R553): `F4`. -/
def progSubR (r : R8) : Program := single (fun s => applyAlu .sub (getR r s) s)

/-- The meaning of `SUB r`. -/
def execSubR (r : R8) (s : State) : Result := run (progSubR r) s

/-- `SUB (HL)` (spec/43_alu8.md R553): `F4 R3`. -/
def progSubAtHl : Program := readAt State.hl (applyAlu .sub)

/-- The meaning of `SUB (HL)`. -/
def execSubAtHl (s : State) : Result := run progSubAtHl s

/-- `SUB n` (spec/43_alu8.md R553): `F4 R3`. -/
def progSubN (n : Byte) : Program := single (applyAlu .sub n)

/-- The meaning of `SUB n`. -/
def execSubN (n : Byte) (s : State) : Result := run (progSubN n) s

/-- `SBC A,r` (spec/43_alu8.md R554): `F4`. -/
def progSbcAR (r : R8) : Program := single (fun s => applyAlu .sbc (getR r s) s)

/-- The meaning of `SBC A,r`. -/
def execSbcAR (r : R8) (s : State) : Result := run (progSbcAR r) s

/-- `SBC A,(HL)` (spec/43_alu8.md R554): `F4 R3`. -/
def progSbcAAtHl : Program := readAt State.hl (applyAlu .sbc)

/-- The meaning of `SBC A,(HL)`. -/
def execSbcAAtHl (s : State) : Result := run progSbcAAtHl s

/-- `SBC A,n` (spec/43_alu8.md R554): `F4 R3`. -/
def progSbcAN (n : Byte) : Program := single (applyAlu .sbc n)

/-- The meaning of `SBC A,n`. -/
def execSbcAN (n : Byte) (s : State) : Result := run (progSbcAN n) s

/-- `AND r` (spec/43_alu8.md R555): `F4`. -/
def progAndR (r : R8) : Program := single (fun s => applyAlu .and (getR r s) s)

/-- The meaning of `AND r`. -/
def execAndR (r : R8) (s : State) : Result := run (progAndR r) s

/-- `AND (HL)` (spec/43_alu8.md R555): `F4 R3`. -/
def progAndAtHl : Program := readAt State.hl (applyAlu .and)

/-- The meaning of `AND (HL)`. -/
def execAndAtHl (s : State) : Result := run progAndAtHl s

/-- `AND n` (spec/43_alu8.md R555): `F4 R3`. -/
def progAndN (n : Byte) : Program := single (applyAlu .and n)

/-- The meaning of `AND n`. -/
def execAndN (n : Byte) (s : State) : Result := run (progAndN n) s

/-- `XOR r` (spec/43_alu8.md R556): `F4`. -/
def progXorR (r : R8) : Program := single (fun s => applyAlu .xor (getR r s) s)

/-- The meaning of `XOR r`. -/
def execXorR (r : R8) (s : State) : Result := run (progXorR r) s

/-- `XOR (HL)` (spec/43_alu8.md R556): `F4 R3`. -/
def progXorAtHl : Program := readAt State.hl (applyAlu .xor)

/-- The meaning of `XOR (HL)`. -/
def execXorAtHl (s : State) : Result := run progXorAtHl s

/-- `XOR n` (spec/43_alu8.md R556): `F4 R3`. -/
def progXorN (n : Byte) : Program := single (applyAlu .xor n)

/-- The meaning of `XOR n`. -/
def execXorN (n : Byte) (s : State) : Result := run (progXorN n) s

/-- `OR r` (spec/43_alu8.md R557): `F4`. -/
def progOrR (r : R8) : Program := single (fun s => applyAlu .or (getR r s) s)

/-- The meaning of `OR r`. -/
def execOrR (r : R8) (s : State) : Result := run (progOrR r) s

/-- `OR (HL)` (spec/43_alu8.md R557): `F4 R3`. -/
def progOrAtHl : Program := readAt State.hl (applyAlu .or)

/-- The meaning of `OR (HL)`. -/
def execOrAtHl (s : State) : Result := run progOrAtHl s

/-- `OR n` (spec/43_alu8.md R557): `F4 R3`. -/
def progOrN (n : Byte) : Program := single (applyAlu .or n)

/-- The meaning of `OR n`. -/
def execOrN (n : Byte) (s : State) : Result := run (progOrN n) s

/-- `CP r` (spec/43_alu8.md R558): `F4`. -/
def progCpR (r : R8) : Program := single (fun s => applyAlu .cp (getR r s) s)

/-- The meaning of `CP r`. -/
def execCpR (r : R8) (s : State) : Result := run (progCpR r) s

/-- `CP (HL)` (spec/43_alu8.md R558): `F4 R3`. -/
def progCpAtHl : Program := readAt State.hl (applyAlu .cp)

/-- The meaning of `CP (HL)`. -/
def execCpAtHl (s : State) : Result := run progCpAtHl s

/-- `CP n` (spec/43_alu8.md R558): `F4 R3`. -/
def progCpN (n : Byte) : Program := single (applyAlu .cp n)

/-- The meaning of `CP n`. -/
def execCpN (n : Byte) (s : State) : Result := run (progCpN n) s

/-- `NEG` (spec/43_alu8.md R567): `F4 F4`. -/
def progNeg (_y : BitVec 3) : Program := single applyNeg

/-- The meaning of `NEG`. -/
def execNeg (y : BitVec 3) (s : State) : Result := run (progNeg y) s

/-- `INC IXH/IXL` (spec/43_alu8.md R559): `F4 F4`. -/
def progIncIxHalf (half : Half) : Program := single (fun s => applyInc8 (getHalf .ix half s) (setHalf .ix half) s)

/-- The meaning of `INC IXH/IXL`. -/
def execIncIxHalf (half : Half) (s : State) : Result := run (progIncIxHalf half) s

/-- `DEC IXH/IXL` (spec/43_alu8.md R562): `F4 F4`. -/
def progDecIxHalf (half : Half) : Program := single (fun s => applyDec8 (getHalf .ix half s) (setHalf .ix half) s)

/-- The meaning of `DEC IXH/IXL`. -/
def execDecIxHalf (half : Half) (s : State) : Result := run (progDecIxHalf half) s

/-- `INC (IX+d)` (spec/43_alu8.md R561): `F4 F4 R3 E5 R4 W3`. -/
def progIncAtIx (d : Byte) : Program := rmwAtXy .ix d applyInc8

/-- The meaning of `INC (IX+d)`. -/
def execIncAtIx (d : Byte) (s : State) : Result := run (progIncAtIx d) s

/-- `DEC (IX+d)` (spec/43_alu8.md R564): `F4 F4 R3 E5 R4 W3`. -/
def progDecAtIx (d : Byte) : Program := rmwAtXy .ix d applyDec8

/-- The meaning of `DEC (IX+d)`. -/
def execDecAtIx (d : Byte) (s : State) : Result := run (progDecAtIx d) s

/-- `ADD A,IXH/IXL` (spec/43_alu8.md R551): `F4 F4`. -/
def progAddAIxHalf (half : Half) : Program := single (fun s => applyAlu .add (getHalf .ix half s) s)

/-- The meaning of `ADD A,IXH/IXL`. -/
def execAddAIxHalf (half : Half) (s : State) : Result := run (progAddAIxHalf half) s

/-- `ADD A,(IX+d)` (spec/43_alu8.md R551): `F4 F4 R3 E5 R3`. -/
def progAddAAtIx (d : Byte) : Program := readAtXy .ix d (applyAlu .add)

/-- The meaning of `ADD A,(IX+d)`. -/
def execAddAAtIx (d : Byte) (s : State) : Result := run (progAddAAtIx d) s

/-- `ADC A,IXH/IXL` (spec/43_alu8.md R552): `F4 F4`. -/
def progAdcAIxHalf (half : Half) : Program := single (fun s => applyAlu .adc (getHalf .ix half s) s)

/-- The meaning of `ADC A,IXH/IXL`. -/
def execAdcAIxHalf (half : Half) (s : State) : Result := run (progAdcAIxHalf half) s

/-- `ADC A,(IX+d)` (spec/43_alu8.md R552): `F4 F4 R3 E5 R3`. -/
def progAdcAAtIx (d : Byte) : Program := readAtXy .ix d (applyAlu .adc)

/-- The meaning of `ADC A,(IX+d)`. -/
def execAdcAAtIx (d : Byte) (s : State) : Result := run (progAdcAAtIx d) s

/-- `SUB IXH/IXL` (spec/43_alu8.md R553): `F4 F4`. -/
def progSubIxHalf (half : Half) : Program := single (fun s => applyAlu .sub (getHalf .ix half s) s)

/-- The meaning of `SUB IXH/IXL`. -/
def execSubIxHalf (half : Half) (s : State) : Result := run (progSubIxHalf half) s

/-- `SUB (IX+d)` (spec/43_alu8.md R553): `F4 F4 R3 E5 R3`. -/
def progSubAtIx (d : Byte) : Program := readAtXy .ix d (applyAlu .sub)

/-- The meaning of `SUB (IX+d)`. -/
def execSubAtIx (d : Byte) (s : State) : Result := run (progSubAtIx d) s

/-- `SBC A,IXH/IXL` (spec/43_alu8.md R554): `F4 F4`. -/
def progSbcAIxHalf (half : Half) : Program := single (fun s => applyAlu .sbc (getHalf .ix half s) s)

/-- The meaning of `SBC A,IXH/IXL`. -/
def execSbcAIxHalf (half : Half) (s : State) : Result := run (progSbcAIxHalf half) s

/-- `SBC A,(IX+d)` (spec/43_alu8.md R554): `F4 F4 R3 E5 R3`. -/
def progSbcAAtIx (d : Byte) : Program := readAtXy .ix d (applyAlu .sbc)

/-- The meaning of `SBC A,(IX+d)`. -/
def execSbcAAtIx (d : Byte) (s : State) : Result := run (progSbcAAtIx d) s

/-- `AND IXH/IXL` (spec/43_alu8.md R555): `F4 F4`. -/
def progAndIxHalf (half : Half) : Program := single (fun s => applyAlu .and (getHalf .ix half s) s)

/-- The meaning of `AND IXH/IXL`. -/
def execAndIxHalf (half : Half) (s : State) : Result := run (progAndIxHalf half) s

/-- `AND (IX+d)` (spec/43_alu8.md R555): `F4 F4 R3 E5 R3`. -/
def progAndAtIx (d : Byte) : Program := readAtXy .ix d (applyAlu .and)

/-- The meaning of `AND (IX+d)`. -/
def execAndAtIx (d : Byte) (s : State) : Result := run (progAndAtIx d) s

/-- `XOR IXH/IXL` (spec/43_alu8.md R556): `F4 F4`. -/
def progXorIxHalf (half : Half) : Program := single (fun s => applyAlu .xor (getHalf .ix half s) s)

/-- The meaning of `XOR IXH/IXL`. -/
def execXorIxHalf (half : Half) (s : State) : Result := run (progXorIxHalf half) s

/-- `XOR (IX+d)` (spec/43_alu8.md R556): `F4 F4 R3 E5 R3`. -/
def progXorAtIx (d : Byte) : Program := readAtXy .ix d (applyAlu .xor)

/-- The meaning of `XOR (IX+d)`. -/
def execXorAtIx (d : Byte) (s : State) : Result := run (progXorAtIx d) s

/-- `OR IXH/IXL` (spec/43_alu8.md R557): `F4 F4`. -/
def progOrIxHalf (half : Half) : Program := single (fun s => applyAlu .or (getHalf .ix half s) s)

/-- The meaning of `OR IXH/IXL`. -/
def execOrIxHalf (half : Half) (s : State) : Result := run (progOrIxHalf half) s

/-- `OR (IX+d)` (spec/43_alu8.md R557): `F4 F4 R3 E5 R3`. -/
def progOrAtIx (d : Byte) : Program := readAtXy .ix d (applyAlu .or)

/-- The meaning of `OR (IX+d)`. -/
def execOrAtIx (d : Byte) (s : State) : Result := run (progOrAtIx d) s

/-- `CP IXH/IXL` (spec/43_alu8.md R558): `F4 F4`. -/
def progCpIxHalf (half : Half) : Program := single (fun s => applyAlu .cp (getHalf .ix half s) s)

/-- The meaning of `CP IXH/IXL`. -/
def execCpIxHalf (half : Half) (s : State) : Result := run (progCpIxHalf half) s

/-- `CP (IX+d)` (spec/43_alu8.md R558): `F4 F4 R3 E5 R3`. -/
def progCpAtIx (d : Byte) : Program := readAtXy .ix d (applyAlu .cp)

/-- The meaning of `CP (IX+d)`. -/
def execCpAtIx (d : Byte) (s : State) : Result := run (progCpAtIx d) s

/-- `INC IYH/IYL` (spec/43_alu8.md R559): `F4 F4`. -/
def progIncIyHalf (half : Half) : Program := single (fun s => applyInc8 (getHalf .iy half s) (setHalf .iy half) s)

/-- The meaning of `INC IYH/IYL`. -/
def execIncIyHalf (half : Half) (s : State) : Result := run (progIncIyHalf half) s

/-- `DEC IYH/IYL` (spec/43_alu8.md R562): `F4 F4`. -/
def progDecIyHalf (half : Half) : Program := single (fun s => applyDec8 (getHalf .iy half s) (setHalf .iy half) s)

/-- The meaning of `DEC IYH/IYL`. -/
def execDecIyHalf (half : Half) (s : State) : Result := run (progDecIyHalf half) s

/-- `INC (IY+d)` (spec/43_alu8.md R561): `F4 F4 R3 E5 R4 W3`. -/
def progIncAtIy (d : Byte) : Program := rmwAtXy .iy d applyInc8

/-- The meaning of `INC (IY+d)`. -/
def execIncAtIy (d : Byte) (s : State) : Result := run (progIncAtIy d) s

/-- `DEC (IY+d)` (spec/43_alu8.md R564): `F4 F4 R3 E5 R4 W3`. -/
def progDecAtIy (d : Byte) : Program := rmwAtXy .iy d applyDec8

/-- The meaning of `DEC (IY+d)`. -/
def execDecAtIy (d : Byte) (s : State) : Result := run (progDecAtIy d) s

/-- `ADD A,IYH/IYL` (spec/43_alu8.md R551): `F4 F4`. -/
def progAddAIyHalf (half : Half) : Program := single (fun s => applyAlu .add (getHalf .iy half s) s)

/-- The meaning of `ADD A,IYH/IYL`. -/
def execAddAIyHalf (half : Half) (s : State) : Result := run (progAddAIyHalf half) s

/-- `ADD A,(IY+d)` (spec/43_alu8.md R551): `F4 F4 R3 E5 R3`. -/
def progAddAAtIy (d : Byte) : Program := readAtXy .iy d (applyAlu .add)

/-- The meaning of `ADD A,(IY+d)`. -/
def execAddAAtIy (d : Byte) (s : State) : Result := run (progAddAAtIy d) s

/-- `ADC A,IYH/IYL` (spec/43_alu8.md R552): `F4 F4`. -/
def progAdcAIyHalf (half : Half) : Program := single (fun s => applyAlu .adc (getHalf .iy half s) s)

/-- The meaning of `ADC A,IYH/IYL`. -/
def execAdcAIyHalf (half : Half) (s : State) : Result := run (progAdcAIyHalf half) s

/-- `ADC A,(IY+d)` (spec/43_alu8.md R552): `F4 F4 R3 E5 R3`. -/
def progAdcAAtIy (d : Byte) : Program := readAtXy .iy d (applyAlu .adc)

/-- The meaning of `ADC A,(IY+d)`. -/
def execAdcAAtIy (d : Byte) (s : State) : Result := run (progAdcAAtIy d) s

/-- `SUB IYH/IYL` (spec/43_alu8.md R553): `F4 F4`. -/
def progSubIyHalf (half : Half) : Program := single (fun s => applyAlu .sub (getHalf .iy half s) s)

/-- The meaning of `SUB IYH/IYL`. -/
def execSubIyHalf (half : Half) (s : State) : Result := run (progSubIyHalf half) s

/-- `SUB (IY+d)` (spec/43_alu8.md R553): `F4 F4 R3 E5 R3`. -/
def progSubAtIy (d : Byte) : Program := readAtXy .iy d (applyAlu .sub)

/-- The meaning of `SUB (IY+d)`. -/
def execSubAtIy (d : Byte) (s : State) : Result := run (progSubAtIy d) s

/-- `SBC A,IYH/IYL` (spec/43_alu8.md R554): `F4 F4`. -/
def progSbcAIyHalf (half : Half) : Program := single (fun s => applyAlu .sbc (getHalf .iy half s) s)

/-- The meaning of `SBC A,IYH/IYL`. -/
def execSbcAIyHalf (half : Half) (s : State) : Result := run (progSbcAIyHalf half) s

/-- `SBC A,(IY+d)` (spec/43_alu8.md R554): `F4 F4 R3 E5 R3`. -/
def progSbcAAtIy (d : Byte) : Program := readAtXy .iy d (applyAlu .sbc)

/-- The meaning of `SBC A,(IY+d)`. -/
def execSbcAAtIy (d : Byte) (s : State) : Result := run (progSbcAAtIy d) s

/-- `AND IYH/IYL` (spec/43_alu8.md R555): `F4 F4`. -/
def progAndIyHalf (half : Half) : Program := single (fun s => applyAlu .and (getHalf .iy half s) s)

/-- The meaning of `AND IYH/IYL`. -/
def execAndIyHalf (half : Half) (s : State) : Result := run (progAndIyHalf half) s

/-- `AND (IY+d)` (spec/43_alu8.md R555): `F4 F4 R3 E5 R3`. -/
def progAndAtIy (d : Byte) : Program := readAtXy .iy d (applyAlu .and)

/-- The meaning of `AND (IY+d)`. -/
def execAndAtIy (d : Byte) (s : State) : Result := run (progAndAtIy d) s

/-- `XOR IYH/IYL` (spec/43_alu8.md R556): `F4 F4`. -/
def progXorIyHalf (half : Half) : Program := single (fun s => applyAlu .xor (getHalf .iy half s) s)

/-- The meaning of `XOR IYH/IYL`. -/
def execXorIyHalf (half : Half) (s : State) : Result := run (progXorIyHalf half) s

/-- `XOR (IY+d)` (spec/43_alu8.md R556): `F4 F4 R3 E5 R3`. -/
def progXorAtIy (d : Byte) : Program := readAtXy .iy d (applyAlu .xor)

/-- The meaning of `XOR (IY+d)`. -/
def execXorAtIy (d : Byte) (s : State) : Result := run (progXorAtIy d) s

/-- `OR IYH/IYL` (spec/43_alu8.md R557): `F4 F4`. -/
def progOrIyHalf (half : Half) : Program := single (fun s => applyAlu .or (getHalf .iy half s) s)

/-- The meaning of `OR IYH/IYL`. -/
def execOrIyHalf (half : Half) (s : State) : Result := run (progOrIyHalf half) s

/-- `OR (IY+d)` (spec/43_alu8.md R557): `F4 F4 R3 E5 R3`. -/
def progOrAtIy (d : Byte) : Program := readAtXy .iy d (applyAlu .or)

/-- The meaning of `OR (IY+d)`. -/
def execOrAtIy (d : Byte) (s : State) : Result := run (progOrAtIy d) s

/-- `CP IYH/IYL` (spec/43_alu8.md R558): `F4 F4`. -/
def progCpIyHalf (half : Half) : Program := single (fun s => applyAlu .cp (getHalf .iy half s) s)

/-- The meaning of `CP IYH/IYL`. -/
def execCpIyHalf (half : Half) (s : State) : Result := run (progCpIyHalf half) s

/-- `CP (IY+d)` (spec/43_alu8.md R558): `F4 F4 R3 E5 R3`. -/
def progCpAtIy (d : Byte) : Program := readAtXy .iy d (applyAlu .cp)

/-- The meaning of `CP (IY+d)`. -/
def execCpAtIy (d : Byte) (s : State) : Result := run (progCpAtIy d) s

end Sys2Proof.Machine
end

