-- ==== Sys2Proof/Machine/Arith16.lean ====
section
/-! DEFINITION. 16-bit arithmetic (spec/44_arith16.md). Each instruction has its steps after the last opcode or operand byte
(`prog…`, spec/40_step_machine.md R411), which the edge-level machine runs one by one, and its meaning (`exec…`),
which runs them all. -/

namespace Sys2Proof.Machine

/-- `ADD HL,rp` (spec/44_arith16.md R600): `F4 E4 E3`. -/
def progAddHlRp (rp : RP) : Program := wide16 (fun s => applyAdd16 s.hl (getRp rp s) setHl s)

/-- The meaning of `ADD HL,rp`. -/
def execAddHlRp (rp : RP) (s : State) : Result := run (progAddHlRp rp) s

/-- `INC rp` (spec/44_arith16.md R604): `F6`. -/
def progIncRp (rp : RP) : Program := singleHold 2 (fun s => setRp rp (getRp rp s + 1) s)

/-- The meaning of `INC rp`. -/
def execIncRp (rp : RP) (s : State) : Result := run (progIncRp rp) s

/-- `DEC rp` (spec/44_arith16.md R605): `F6`. -/
def progDecRp (rp : RP) : Program := singleHold 2 (fun s => setRp rp (getRp rp s - 1) s)

/-- The meaning of `DEC rp`. -/
def execDecRp (rp : RP) (s : State) : Result := run (progDecRp rp) s

/-- `SBC HL,rp` (spec/44_arith16.md R602): `F4 F4 E4 E3`. -/
def progSbcHlRp (rp : RP) : Program := wide16 (fun s => applySbc16 (getRp rp s) s)

/-- The meaning of `SBC HL,rp`. -/
def execSbcHlRp (rp : RP) (s : State) : Result := run (progSbcHlRp rp) s

/-- `ADC HL,rp` (spec/44_arith16.md R601): `F4 F4 E4 E3`. -/
def progAdcHlRp (rp : RP) : Program := wide16 (fun s => applyAdc16 (getRp rp s) s)

/-- The meaning of `ADC HL,rp`. -/
def execAdcHlRp (rp : RP) (s : State) : Result := run (progAdcHlRp rp) s

/-- `ADD IX,rp` (spec/44_arith16.md R603): `F4 F4 E4 E3`. -/
def progAddIxRp (rp : RP) : Program := wide16 (fun s => applyAdd16 (getX .ix s) (getRpX .ix rp s) (setX .ix) s)

/-- The meaning of `ADD IX,rp`. -/
def execAddIxRp (rp : RP) (s : State) : Result := run (progAddIxRp rp) s

/-- `INC IX` (spec/44_arith16.md R604): `F4 F6`. -/
def progIncIx : Program := singleHold 2 (fun s => setX .ix (getX .ix s + 1) s)

/-- The meaning of `INC IX`. -/
def execIncIx (s : State) : Result := run progIncIx s

/-- `DEC IX` (spec/44_arith16.md R605): `F4 F6`. -/
def progDecIx : Program := singleHold 2 (fun s => setX .ix (getX .ix s - 1) s)

/-- The meaning of `DEC IX`. -/
def execDecIx (s : State) : Result := run progDecIx s

/-- `ADD IY,rp` (spec/44_arith16.md R603): `F4 F4 E4 E3`. -/
def progAddIyRp (rp : RP) : Program := wide16 (fun s => applyAdd16 (getX .iy s) (getRpX .iy rp s) (setX .iy) s)

/-- The meaning of `ADD IY,rp`. -/
def execAddIyRp (rp : RP) (s : State) : Result := run (progAddIyRp rp) s

/-- `INC IY` (spec/44_arith16.md R604): `F4 F6`. -/
def progIncIy : Program := singleHold 2 (fun s => setX .iy (getX .iy s + 1) s)

/-- The meaning of `INC IY`. -/
def execIncIy (s : State) : Result := run progIncIy s

/-- `DEC IY` (spec/44_arith16.md R605): `F4 F6`. -/
def progDecIy : Program := singleHold 2 (fun s => setX .iy (getX .iy s - 1) s)

/-- The meaning of `DEC IY`. -/
def execDecIy (s : State) : Result := run progDecIy s

end Sys2Proof.Machine
end

