-- ==== Sys2Proof/Machine/CpuControl.lean ====
section
/-! DEFINITION. CPU control, prefixes and no-operation encodings (spec/49_cpu_control.md). Each instruction has its steps after the last opcode or operand byte
(`prog…`, spec/40_step_machine.md R411), which the edge-level machine runs one by one, and its meaning (`exec…`),
which runs them all. -/

namespace Sys2Proof.Machine

/-- `NOP` (spec/49_cpu_control.md R780): `F4`. -/
def progNop : Program := single (fun s => s)

/-- The meaning of `NOP`. -/
def execNop (s : State) : Result := run progNop s

/-- `HALT` (spec/49_cpu_control.md R781): `F4`. -/
def progHalt : Program := single enterHalted

/-- The meaning of `HALT`. -/
def execHalt (s : State) : Result := run progHalt s

/-- `CB prefix` (spec/49_cpu_control.md R785): `F4`. -/
def progCbPrefix : Program := [setLatch .cb]

/-- The meaning of `CB prefix`. -/
def execCbPrefix (s : State) : Result := run progCbPrefix s

/-- `DI` (spec/49_cpu_control.md R782): `F4`. -/
def progDi : Program := single (raiseUnimplemented 0x00F3#16)

/-- The meaning of `DI`. -/
def execDi (s : State) : Result := run progDi s

/-- `EI` (spec/49_cpu_control.md R783): `F4`. -/
def progEi : Program := single (raiseUnimplemented 0x00FB#16)

/-- The meaning of `EI`. -/
def execEi (s : State) : Result := run progEi s

/-- `DD prefix` (spec/49_cpu_control.md R785): `F4`. -/
def progDdPrefix : Program := [setLatch .dd]

/-- The meaning of `DD prefix`. -/
def execDdPrefix (s : State) : Result := run progDdPrefix s

/-- `ED prefix` (spec/49_cpu_control.md R785): `F4`. -/
def progEdPrefix : Program := [setLatch .ed]

/-- The meaning of `ED prefix`. -/
def execEdPrefix (s : State) : Result := run progEdPrefix s

/-- `FD prefix` (spec/49_cpu_control.md R785): `F4`. -/
def progFdPrefix : Program := [setLatch .fd]

/-- The meaning of `FD prefix`. -/
def execFdPrefix (s : State) : Result := run progFdPrefix s

/-- `IM m` (spec/49_cpu_control.md R784): `F4 F4`. -/
def progIm (y : BitVec 3) : Program := single (raiseUnimplemented (mk16 0xED#8 (mkOp 1 y 6)))

/-- The meaning of `IM m`. -/
def execIm (y : BitVec 3) (s : State) : Result := run (progIm y) s

/-- `NOP (ED 77, ED 7F)` (spec/49_cpu_control.md R787): `F4 F4`. -/
def progNopEd (_q : BitVec 1) : Program := single (fun s => s)

/-- The meaning of `NOP (ED 77, ED 7F)`. -/
def execNopEd (q : BitVec 1) (s : State) : Result := run (progNopEd q) s

/-- `NONI (invalid ED opcode)` (spec/49_cpu_control.md R787): `F4 F4`. -/
def progNoni (_op : Byte) : Program := single (fun s => s)

/-- The meaning of `NONI (invalid ED opcode)`. -/
def execNoni (op : Byte) (s : State) : Result := run (progNoni op) s

/-- `DD CB prefix (two-byte prefix DD CB)` (spec/49_cpu_control.md R785): `F4 F4 R3 (then the DDCB/FDCB op byte)`. -/
def progDdCbPrefix : Program := [fun s => requestOperand (setLatch .ddcb s)]

/-- The meaning of `DD CB prefix (two-byte prefix DD CB)`. -/
def execDdCbPrefix (s : State) : Result := run progDdCbPrefix s

/-- `DD prefix without effect` (spec/49_cpu_control.md R786): `F4 (then the opcode executes unprefixed)`. -/
def progDdNoEffect (_op : Byte) : Program := [setLatch .dd]

/-- The meaning of `DD prefix without effect`. -/
def execDdNoEffect (op : Byte) (s : State) : Result := run (progDdNoEffect op) s

/-- `FD CB prefix (two-byte prefix FD CB)` (spec/49_cpu_control.md R785): `F4 F4 R3 (then the DDCB/FDCB op byte)`. -/
def progFdCbPrefix : Program := [fun s => requestOperand (setLatch .fdcb s)]

/-- The meaning of `FD CB prefix (two-byte prefix FD CB)`. -/
def execFdCbPrefix (s : State) : Result := run progFdCbPrefix s

/-- `FD prefix without effect` (spec/49_cpu_control.md R786): `F4 (then the opcode executes unprefixed)`. -/
def progFdNoEffect (_op : Byte) : Program := [setLatch .fd]

/-- The meaning of `FD prefix without effect`. -/
def execFdNoEffect (op : Byte) (s : State) : Result := run (progFdNoEffect op) s

end Sys2Proof.Machine
end

