-- ==== Sys2Proof/Machine/ExchangeBlock.lean ====
section
/-! DEFINITION. Exchange, block transfer and block compare instructions (spec/47_exchange_block.md). Each instruction has its steps after the last opcode or operand byte
(`prog…`, spec/40_step_machine.md R411), which the edge-level machine runs one by one, and its meaning (`exec…`),
which runs them all. -/

namespace Sys2Proof.Machine

/-- `EX AF,AF'` (spec/47_exchange_block.md R721): `F4`. -/
def progExAfAf : Program := single exchangeAf

/-- The meaning of `EX AF,AF'`. -/
def execExAfAf (s : State) : Result := run progExAfAf s

/-- `EXX` (spec/47_exchange_block.md R722): `F4`. -/
def progExx : Program := single exchangeMain

/-- The meaning of `EXX`. -/
def execExx (s : State) : Result := run progExx s

/-- `EX (SP),HL` (spec/47_exchange_block.md R723): `F4 R3 R4 W3 W5`. -/
def progExAtSpHl : Program := exchangeAtSp State.hl setHl

/-- The meaning of `EX (SP),HL`. -/
def execExAtSpHl (s : State) : Result := run progExAtSpHl s

/-- `EX DE,HL` (spec/47_exchange_block.md R720): `F4`. -/
def progExDeHl : Program := single exchangeDeHl

/-- The meaning of `EX DE,HL`. -/
def execExDeHl (s : State) : Result := run progExDeHl s

/-- `LDI` (spec/47_exchange_block.md R724): `F4 F4 R3 W5`. -/
def progLdi : Program := blockLoad 1 false

/-- The meaning of `LDI`. -/
def execLdi (s : State) : Result := run progLdi s

/-- `CPI` (spec/47_exchange_block.md R728): `F4 F4 R3 E5`. -/
def progCpi : Program := blockCompare 1 false

/-- The meaning of `CPI`. -/
def execCpi (s : State) : Result := run progCpi s

/-- `LDD` (spec/47_exchange_block.md R726): `F4 F4 R3 W5`. -/
def progLdd : Program := blockLoad (-1) false

/-- The meaning of `LDD`. -/
def execLdd (s : State) : Result := run progLdd s

/-- `CPD` (spec/47_exchange_block.md R730): `F4 F4 R3 E5`. -/
def progCpd : Program := blockCompare (-1) false

/-- The meaning of `CPD`. -/
def execCpd (s : State) : Result := run progCpd s

/-- `LDIR` (spec/47_exchange_block.md R725): `F4 F4 R3 W5 E5 (repeat) | F4 F4 R3 W5 (last)`. -/
def progLdir : Program := blockLoad 1 true

/-- The meaning of `LDIR`. -/
def execLdir (s : State) : Result := run progLdir s

/-- `CPIR` (spec/47_exchange_block.md R729): `F4 F4 R3 E5 E5 (repeat) | F4 F4 R3 E5 (last)`. -/
def progCpir : Program := blockCompare 1 true

/-- The meaning of `CPIR`. -/
def execCpir (s : State) : Result := run progCpir s

/-- `LDDR` (spec/47_exchange_block.md R727): `F4 F4 R3 W5 E5 (repeat) | F4 F4 R3 W5 (last)`. -/
def progLddr : Program := blockLoad (-1) true

/-- The meaning of `LDDR`. -/
def execLddr (s : State) : Result := run progLddr s

/-- `CPDR` (spec/47_exchange_block.md R731): `F4 F4 R3 E5 E5 (repeat) | F4 F4 R3 E5 (last)`. -/
def progCpdr : Program := blockCompare (-1) true

/-- The meaning of `CPDR`. -/
def execCpdr (s : State) : Result := run progCpdr s

/-- `EX (SP),IX` (spec/47_exchange_block.md R723): `F4 F4 R3 R4 W3 W5`. -/
def progExAtSpIx : Program := exchangeAtSp (getX .ix) (setX .ix)

/-- The meaning of `EX (SP),IX`. -/
def execExAtSpIx (s : State) : Result := run progExAtSpIx s

/-- `EX (SP),IY` (spec/47_exchange_block.md R723): `F4 F4 R3 R4 W3 W5`. -/
def progExAtSpIy : Program := exchangeAtSp (getX .iy) (setX .iy)

/-- The meaning of `EX (SP),IY`. -/
def execExAtSpIy (s : State) : Result := run progExAtSpIy s

end Sys2Proof.Machine
end

