-- ==== Sys2Proof/Machine/Io.lean ====
section
/-! DEFINITION. Input/output instructions (spec/48_io.md). Each instruction has its steps after the last opcode or operand byte
(`prog…`, spec/40_step_machine.md R411), which the edge-level machine runs one by one, and its meaning (`exec…`),
which runs them all. -/

namespace Sys2Proof.Machine

/-- `OUT (n),A` (spec/48_io.md R753): `F4 R3 O4`. -/
def progOutAtNA (n : Byte) : Program := [fun s => reqIoWrite (mk16 s.regs.a n) s.regs.a s, signalDone]

/-- The meaning of `OUT (n),A`. -/
def execOutAtNA (n : Byte) (s : State) : Result := run (progOutAtNA n) s

/-- `IN A,(n)` (spec/48_io.md R750): `F4 R3 I4`. -/
def progInAAtN (n : Byte) : Program :=
  [ fun s => reqIoRead (mk16 s.regs.a n) s,
    fun s => signalDone (setR .a s.seq.dataIn s) ]

/-- The meaning of `IN A,(n)`. -/
def execInAAtN (n : Byte) (s : State) : Result := run (progInAAtN n) s

/-- `IN r,(C)` (spec/48_io.md R751): `F4 F4 I4`. -/
def progInRC (r : R8) : Program :=
  [ fun s => reqIoRead s.bc s,
    fun s => signalDone (applySzp s.seq.dataIn (parity s.seq.dataIn) (setR r s.seq.dataIn s)) ]

/-- The meaning of `IN r,(C)`. -/
def execInRC (r : R8) (s : State) : Result := run (progInRC r) s

/-- `IN (C)` (spec/48_io.md R752): `F4 F4 I4`. -/
def progInFlagsC : Program :=
  [ fun s => reqIoRead s.bc s,
    fun s => signalDone (applySzp s.seq.dataIn (parity s.seq.dataIn) s) ]

/-- The meaning of `IN (C)`. -/
def execInFlagsC (s : State) : Result := run progInFlagsC s

/-- `OUT (C),r` (spec/48_io.md R754): `F4 F4 O4`. -/
def progOutCR (r : R8) : Program := [fun s => reqIoWrite s.bc (getR r s) s, signalDone]

/-- The meaning of `OUT (C),r`. -/
def execOutCR (r : R8) (s : State) : Result := run (progOutCR r) s

/-- `OUT (C),0` (spec/48_io.md R755): `F4 F4 O4`. -/
def progOutC0 : Program := [fun s => reqIoWrite s.bc 0x00#8 s, signalDone]

/-- The meaning of `OUT (C),0`. -/
def execOutC0 (s : State) : Result := run progOutC0 s

/-- `INI` (spec/48_io.md R756): `F4 F5 I4 W3`. -/
def progIni : Program := blockIn 1 false

/-- The meaning of `INI`. -/
def execIni (s : State) : Result := run progIni s

/-- `OUTI` (spec/48_io.md R760): `F4 F5 R3 O4`. -/
def progOuti : Program := blockOut 1 false

/-- The meaning of `OUTI`. -/
def execOuti (s : State) : Result := run progOuti s

/-- `IND` (spec/48_io.md R758): `F4 F5 I4 W3`. -/
def progInd : Program := blockIn (-1) false

/-- The meaning of `IND`. -/
def execInd (s : State) : Result := run progInd s

/-- `OUTD` (spec/48_io.md R762): `F4 F5 R3 O4`. -/
def progOutd : Program := blockOut (-1) false

/-- The meaning of `OUTD`. -/
def execOutd (s : State) : Result := run progOutd s

/-- `INIR` (spec/48_io.md R757): `F4 F5 I4 W3 E5 (repeat) | F4 F5 I4 W3 (last)`. -/
def progInir : Program := blockIn 1 true

/-- The meaning of `INIR`. -/
def execInir (s : State) : Result := run progInir s

/-- `OTIR` (spec/48_io.md R761): `F4 F5 R3 O4 E5 (repeat) | F4 F5 R3 O4 (last)`. -/
def progOtir : Program := blockOut 1 true

/-- The meaning of `OTIR`. -/
def execOtir (s : State) : Result := run progOtir s

/-- `INDR` (spec/48_io.md R759): `F4 F5 I4 W3 E5 (repeat) | F4 F5 I4 W3 (last)`. -/
def progIndr : Program := blockIn (-1) true

/-- The meaning of `INDR`. -/
def execIndr (s : State) : Result := run progIndr s

/-- `OTDR` (spec/48_io.md R763): `F4 F5 R3 O4 E5 (repeat) | F4 F5 R3 O4 (last)`. -/
def progOtdr : Program := blockOut (-1) true

/-- The meaning of `OTDR`. -/
def execOtdr (s : State) : Result := run progOtdr s

end Sys2Proof.Machine
end

