-- ==== Sys2Proof/Machine/Load.lean ====
section
/-! DEFINITION. Load instructions (spec/42_load.md). Each instruction has its steps after the last opcode or operand byte
(`prog…`, spec/40_step_machine.md R411), which the edge-level machine runs one by one, and its meaning (`exec…`),
which runs them all. -/

namespace Sys2Proof.Machine

/-- `LD rp,nn` (spec/42_load.md R518): `F4 R3 R3`. -/
def progLdRpNn (rp : RP) (nn : Word) : Program := single (setRp rp nn)

/-- The meaning of `LD rp,nn`. -/
def execLdRpNn (rp : RP) (nn : Word) (s : State) : Result := run (progLdRpNn rp nn) s

/-- `LD (BC),A` (spec/42_load.md R511): `F4 W3`. -/
def progLdAtBcA : Program := writeAt State.bc (fun s => s.regs.a)

/-- The meaning of `LD (BC),A`. -/
def execLdAtBcA (s : State) : Result := run progLdAtBcA s

/-- `LD (DE),A` (spec/42_load.md R512): `F4 W3`. -/
def progLdAtDeA : Program := writeAt State.de (fun s => s.regs.a)

/-- The meaning of `LD (DE),A`. -/
def execLdAtDeA (s : State) : Result := run progLdAtDeA s

/-- `LD (nn),HL` (spec/42_load.md R521): `F4 R3 R3 W3 W3`. -/
def progLdAtNnHl (nn : Word) : Program := writePairAt nn State.hl

/-- The meaning of `LD (nn),HL`. -/
def execLdAtNnHl (nn : Word) (s : State) : Result := run (progLdAtNnHl nn) s

/-- `LD (nn),A` (spec/42_load.md R513): `F4 R3 R3 W3`. -/
def progLdAtNnA (nn : Word) : Program := writeAt (fun _ => nn) (fun s => s.regs.a)

/-- The meaning of `LD (nn),A`. -/
def execLdAtNnA (nn : Word) (s : State) : Result := run (progLdAtNnA nn) s

/-- `LD A,(BC)` (spec/42_load.md R508): `F4 R3`. -/
def progLdAAtBc : Program := readAt State.bc (setR .a)

/-- The meaning of `LD A,(BC)`. -/
def execLdAAtBc (s : State) : Result := run progLdAAtBc s

/-- `LD A,(DE)` (spec/42_load.md R509): `F4 R3`. -/
def progLdAAtDe : Program := readAt State.de (setR .a)

/-- The meaning of `LD A,(DE)`. -/
def execLdAAtDe (s : State) : Result := run progLdAAtDe s

/-- `LD HL,(nn)` (spec/42_load.md R519): `F4 R3 R3 R3 R3`. -/
def progLdHlAtNn (nn : Word) : Program := readPairAt nn setHl

/-- The meaning of `LD HL,(nn)`. -/
def execLdHlAtNn (nn : Word) (s : State) : Result := run (progLdHlAtNn nn) s

/-- `LD A,(nn)` (spec/42_load.md R510): `F4 R3 R3 R3`. -/
def progLdAAtNn (nn : Word) : Program := readAt (fun _ => nn) (setR .a)

/-- The meaning of `LD A,(nn)`. -/
def execLdAAtNn (nn : Word) (s : State) : Result := run (progLdAAtNn nn) s

/-- `LD r,n` (spec/42_load.md R501): `F4 R3`. -/
def progLdRN (r : R8) (n : Byte) : Program := single (setR r n)

/-- The meaning of `LD r,n`. -/
def execLdRN (r : R8) (n : Byte) (s : State) : Result := run (progLdRN r n) s

/-- `LD (HL),n` (spec/42_load.md R506): `F4 R3 W3`. -/
def progLdAtHlN (n : Byte) : Program := writeAt State.hl (fun _ => n)

/-- The meaning of `LD (HL),n`. -/
def execLdAtHlN (n : Byte) (s : State) : Result := run (progLdAtHlN n) s

/-- `LD r,r'` (spec/42_load.md R500): `F4`. -/
def progLdRR (r : R8) (r' : R8) : Program := single (fun s => setR r (getR r' s) s)

/-- The meaning of `LD r,r'`. -/
def execLdRR (r : R8) (r' : R8) (s : State) : Result := run (progLdRR r r') s

/-- `LD r,(HL)` (spec/42_load.md R502): `F4 R3`. -/
def progLdRAtHl (r : R8) : Program := readAt State.hl (setR r)

/-- The meaning of `LD r,(HL)`. -/
def execLdRAtHl (r : R8) (s : State) : Result := run (progLdRAtHl r) s

/-- `LD (HL),r` (spec/42_load.md R504): `F4 W3`. -/
def progLdAtHlR (r : R8) : Program := writeAt State.hl (getR r)

/-- The meaning of `LD (HL),r`. -/
def execLdAtHlR (r : R8) (s : State) : Result := run (progLdAtHlR r) s

/-- `LD SP,HL` (spec/42_load.md R523): `F6`. -/
def progLdSpHl : Program := singleHold 2 (fun s => setSp s.hl s)

/-- The meaning of `LD SP,HL`. -/
def execLdSpHl (s : State) : Result := run progLdSpHl s

/-- `LD (nn),rp` (spec/42_load.md R522): `F4 F4 R3 R3 W3 W3`. -/
def progLdAtNnRp (rp : RP) (nn : Word) : Program := writePairAt nn (getRp rp)

/-- The meaning of `LD (nn),rp`. -/
def execLdAtNnRp (rp : RP) (nn : Word) (s : State) : Result := run (progLdAtNnRp rp nn) s

/-- `LD rp,(nn)` (spec/42_load.md R520): `F4 F4 R3 R3 R3 R3`. -/
def progLdRpAtNn (rp : RP) (nn : Word) : Program := readPairAt nn (setRp rp)

/-- The meaning of `LD rp,(nn)`. -/
def execLdRpAtNn (rp : RP) (nn : Word) (s : State) : Result := run (progLdRpAtNn rp nn) s

/-- `LD I,A` (spec/42_load.md R516): `F4 F5`. -/
def progLdIA : Program := singleHold 1 (fun s => setI s.regs.a s)

/-- The meaning of `LD I,A`. -/
def execLdIA (s : State) : Result := run progLdIA s

/-- `LD R,A` (spec/42_load.md R517): `F4 F5`. -/
def progLdRA : Program := singleHold 1 (fun s => setRefresh s.regs.a s)

/-- The meaning of `LD R,A`. -/
def execLdRA (s : State) : Result := run progLdRA s

/-- `LD A,I` (spec/42_load.md R514): `F4 F5`. -/
def progLdAI : Program := singleHold 1 (fun s => applySzp s.regs.i s.regs.iff2 (setR .a s.regs.i s))

/-- The meaning of `LD A,I`. -/
def execLdAI (s : State) : Result := run progLdAI s

/-- `LD A,R` (spec/42_load.md R515): `F4 F5`. -/
def progLdAR : Program := singleHold 1 (fun s => applySzp s.regs.r s.regs.iff2 (setR .a s.regs.r s))

/-- The meaning of `LD A,R`. -/
def execLdAR (s : State) : Result := run progLdAR s

/-- `LD IX,nn` (spec/42_load.md R518): `F4 F4 R3 R3`. -/
def progLdIxNn (nn : Word) : Program := single (setX .ix nn)

/-- The meaning of `LD IX,nn`. -/
def execLdIxNn (nn : Word) (s : State) : Result := run (progLdIxNn nn) s

/-- `LD (nn),IX` (spec/42_load.md R521): `F4 F4 R3 R3 W3 W3`. -/
def progLdAtNnIx (nn : Word) : Program := writePairAt nn (getX .ix)

/-- The meaning of `LD (nn),IX`. -/
def execLdAtNnIx (nn : Word) (s : State) : Result := run (progLdAtNnIx nn) s

/-- `LD IX,(nn)` (spec/42_load.md R519): `F4 F4 R3 R3 R3 R3`. -/
def progLdIxAtNn (nn : Word) : Program := readPairAt nn (setX .ix)

/-- The meaning of `LD IX,(nn)`. -/
def execLdIxAtNn (nn : Word) (s : State) : Result := run (progLdIxAtNn nn) s

/-- `LD IXH/IXL,n` (spec/42_load.md R501): `F4 F4 R3`. -/
def progLdIxHalfN (half : Half) (n : Byte) : Program := single (setHalf .ix half n)

/-- The meaning of `LD IXH/IXL,n`. -/
def execLdIxHalfN (half : Half) (n : Byte) (s : State) : Result := run (progLdIxHalfN half n) s

/-- `LD (IX+d),n` (spec/42_load.md R507): `F4 F4 R3 R5 W3`. -/
def progLdAtIxN (d : Byte) (n : Byte) : Program :=
  [ fun s => let s := holdFor 2 (formAddress .ix d s)
             reqWrite s.regs.wz n s,
    signalDone ]

/-- The meaning of `LD (IX+d),n`. -/
def execLdAtIxN (d : Byte) (n : Byte) (s : State) : Result := run (progLdAtIxN d n) s

/-- `LD r,r' (IX halves)` (spec/42_load.md R500): `F4 F4`. -/
def progLdRRIxHalves (r : R8) (r' : R8) : Program := single (fun s => setRX .ix r (getRX .ix r' s) s)

/-- The meaning of `LD r,r' (IX halves)`. -/
def execLdRRIxHalves (r : R8) (r' : R8) (s : State) : Result := run (progLdRRIxHalves r r') s

/-- `LD r,(IX+d)` (spec/42_load.md R503): `F4 F4 R3 E5 R3`. -/
def progLdRAtIx (r : R8) (d : Byte) : Program := readAtXy .ix d (setR r)

/-- The meaning of `LD r,(IX+d)`. -/
def execLdRAtIx (r : R8) (d : Byte) (s : State) : Result := run (progLdRAtIx r d) s

/-- `LD (IX+d),r` (spec/42_load.md R505): `F4 F4 R3 E5 W3`. -/
def progLdAtIxR (d : Byte) (r : R8) : Program := writeAtXy .ix d (getR r)

/-- The meaning of `LD (IX+d),r`. -/
def execLdAtIxR (d : Byte) (r : R8) (s : State) : Result := run (progLdAtIxR d r) s

/-- `LD SP,IX` (spec/42_load.md R523): `F4 F6`. -/
def progLdSpIx : Program := singleHold 2 (fun s => setSp (getX .ix s) s)

/-- The meaning of `LD SP,IX`. -/
def execLdSpIx (s : State) : Result := run progLdSpIx s

/-- `LD IY,nn` (spec/42_load.md R518): `F4 F4 R3 R3`. -/
def progLdIyNn (nn : Word) : Program := single (setX .iy nn)

/-- The meaning of `LD IY,nn`. -/
def execLdIyNn (nn : Word) (s : State) : Result := run (progLdIyNn nn) s

/-- `LD (nn),IY` (spec/42_load.md R521): `F4 F4 R3 R3 W3 W3`. -/
def progLdAtNnIy (nn : Word) : Program := writePairAt nn (getX .iy)

/-- The meaning of `LD (nn),IY`. -/
def execLdAtNnIy (nn : Word) (s : State) : Result := run (progLdAtNnIy nn) s

/-- `LD IY,(nn)` (spec/42_load.md R519): `F4 F4 R3 R3 R3 R3`. -/
def progLdIyAtNn (nn : Word) : Program := readPairAt nn (setX .iy)

/-- The meaning of `LD IY,(nn)`. -/
def execLdIyAtNn (nn : Word) (s : State) : Result := run (progLdIyAtNn nn) s

/-- `LD IYH/IYL,n` (spec/42_load.md R501): `F4 F4 R3`. -/
def progLdIyHalfN (half : Half) (n : Byte) : Program := single (setHalf .iy half n)

/-- The meaning of `LD IYH/IYL,n`. -/
def execLdIyHalfN (half : Half) (n : Byte) (s : State) : Result := run (progLdIyHalfN half n) s

/-- `LD (IY+d),n` (spec/42_load.md R507): `F4 F4 R3 R5 W3`. -/
def progLdAtIyN (d : Byte) (n : Byte) : Program :=
  [ fun s => let s := holdFor 2 (formAddress .iy d s)
             reqWrite s.regs.wz n s,
    signalDone ]

/-- The meaning of `LD (IY+d),n`. -/
def execLdAtIyN (d : Byte) (n : Byte) (s : State) : Result := run (progLdAtIyN d n) s

/-- `LD r,r' (IY halves)` (spec/42_load.md R500): `F4 F4`. -/
def progLdRRIyHalves (r : R8) (r' : R8) : Program := single (fun s => setRX .iy r (getRX .iy r' s) s)

/-- The meaning of `LD r,r' (IY halves)`. -/
def execLdRRIyHalves (r : R8) (r' : R8) (s : State) : Result := run (progLdRRIyHalves r r') s

/-- `LD r,(IY+d)` (spec/42_load.md R503): `F4 F4 R3 E5 R3`. -/
def progLdRAtIy (r : R8) (d : Byte) : Program := readAtXy .iy d (setR r)

/-- The meaning of `LD r,(IY+d)`. -/
def execLdRAtIy (r : R8) (d : Byte) (s : State) : Result := run (progLdRAtIy r d) s

/-- `LD (IY+d),r` (spec/42_load.md R505): `F4 F4 R3 E5 W3`. -/
def progLdAtIyR (d : Byte) (r : R8) : Program := writeAtXy .iy d (getR r)

/-- The meaning of `LD (IY+d),r`. -/
def execLdAtIyR (d : Byte) (r : R8) (s : State) : Result := run (progLdAtIyR d r) s

/-- `LD SP,IY` (spec/42_load.md R523): `F4 F6`. -/
def progLdSpIy : Program := singleHold 2 (fun s => setSp (getX .iy s) s)

/-- The meaning of `LD SP,IY`. -/
def execLdSpIy (s : State) : Result := run progLdSpIy s

end Sys2Proof.Machine
end

