-- ==== Sys2Proof/Machine/RotateBit.lean ====
section
/-! DEFINITION. Rotate, shift and bit instructions (spec/46_rotate_bit.md). Each instruction has its steps after the last opcode or operand byte
(`prog…`, spec/40_step_machine.md R411), which the edge-level machine runs one by one, and its meaning (`exec…`),
which runs them all. -/

namespace Sys2Proof.Machine

/-- `RLCA` (spec/46_rotate_bit.md R670): `F4`. -/
def progRlca : Program := single (applyRota .rlc)

/-- The meaning of `RLCA`. -/
def execRlca (s : State) : Result := run progRlca s

/-- `RRCA` (spec/46_rotate_bit.md R671): `F4`. -/
def progRrca : Program := single (applyRota .rrc)

/-- The meaning of `RRCA`. -/
def execRrca (s : State) : Result := run progRrca s

/-- `RLA` (spec/46_rotate_bit.md R672): `F4`. -/
def progRla : Program := single (applyRota .rl)

/-- The meaning of `RLA`. -/
def execRla (s : State) : Result := run progRla s

/-- `RRA` (spec/46_rotate_bit.md R673): `F4`. -/
def progRra : Program := single (applyRota .rr)

/-- The meaning of `RRA`. -/
def execRra (s : State) : Result := run progRra s

/-- `RLC r` (spec/46_rotate_bit.md R675): `F4 F4`. -/
def progRlcR (r : R8) : Program := single (fun s => applyRot .rlc (getR r s) (setR r) s)

/-- The meaning of `RLC r`. -/
def execRlcR (r : R8) (s : State) : Result := run (progRlcR r) s

/-- `RLC (HL)` (spec/46_rotate_bit.md R675): `F4 F4 R4 W3`. -/
def progRlcAtHl : Program := rmwAtHl (applyRot .rlc)

/-- The meaning of `RLC (HL)`. -/
def execRlcAtHl (s : State) : Result := run progRlcAtHl s

/-- `RRC r` (spec/46_rotate_bit.md R676): `F4 F4`. -/
def progRrcR (r : R8) : Program := single (fun s => applyRot .rrc (getR r s) (setR r) s)

/-- The meaning of `RRC r`. -/
def execRrcR (r : R8) (s : State) : Result := run (progRrcR r) s

/-- `RRC (HL)` (spec/46_rotate_bit.md R676): `F4 F4 R4 W3`. -/
def progRrcAtHl : Program := rmwAtHl (applyRot .rrc)

/-- The meaning of `RRC (HL)`. -/
def execRrcAtHl (s : State) : Result := run progRrcAtHl s

/-- `RL r` (spec/46_rotate_bit.md R677): `F4 F4`. -/
def progRlR (r : R8) : Program := single (fun s => applyRot .rl (getR r s) (setR r) s)

/-- The meaning of `RL r`. -/
def execRlR (r : R8) (s : State) : Result := run (progRlR r) s

/-- `RL (HL)` (spec/46_rotate_bit.md R677): `F4 F4 R4 W3`. -/
def progRlAtHl : Program := rmwAtHl (applyRot .rl)

/-- The meaning of `RL (HL)`. -/
def execRlAtHl (s : State) : Result := run progRlAtHl s

/-- `RR r` (spec/46_rotate_bit.md R678): `F4 F4`. -/
def progRrR (r : R8) : Program := single (fun s => applyRot .rr (getR r s) (setR r) s)

/-- The meaning of `RR r`. -/
def execRrR (r : R8) (s : State) : Result := run (progRrR r) s

/-- `RR (HL)` (spec/46_rotate_bit.md R678): `F4 F4 R4 W3`. -/
def progRrAtHl : Program := rmwAtHl (applyRot .rr)

/-- The meaning of `RR (HL)`. -/
def execRrAtHl (s : State) : Result := run progRrAtHl s

/-- `SLA r` (spec/46_rotate_bit.md R679): `F4 F4`. -/
def progSlaR (r : R8) : Program := single (fun s => applyRot .sla (getR r s) (setR r) s)

/-- The meaning of `SLA r`. -/
def execSlaR (r : R8) (s : State) : Result := run (progSlaR r) s

/-- `SLA (HL)` (spec/46_rotate_bit.md R679): `F4 F4 R4 W3`. -/
def progSlaAtHl : Program := rmwAtHl (applyRot .sla)

/-- The meaning of `SLA (HL)`. -/
def execSlaAtHl (s : State) : Result := run progSlaAtHl s

/-- `SRA r` (spec/46_rotate_bit.md R680): `F4 F4`. -/
def progSraR (r : R8) : Program := single (fun s => applyRot .sra (getR r s) (setR r) s)

/-- The meaning of `SRA r`. -/
def execSraR (r : R8) (s : State) : Result := run (progSraR r) s

/-- `SRA (HL)` (spec/46_rotate_bit.md R680): `F4 F4 R4 W3`. -/
def progSraAtHl : Program := rmwAtHl (applyRot .sra)

/-- The meaning of `SRA (HL)`. -/
def execSraAtHl (s : State) : Result := run progSraAtHl s

/-- `SLL r` (spec/46_rotate_bit.md R681): `F4 F4`. -/
def progSllR (r : R8) : Program := single (fun s => applyRot .sll (getR r s) (setR r) s)

/-- The meaning of `SLL r`. -/
def execSllR (r : R8) (s : State) : Result := run (progSllR r) s

/-- `SLL (HL)` (spec/46_rotate_bit.md R681): `F4 F4 R4 W3`. -/
def progSllAtHl : Program := rmwAtHl (applyRot .sll)

/-- The meaning of `SLL (HL)`. -/
def execSllAtHl (s : State) : Result := run progSllAtHl s

/-- `SRL r` (spec/46_rotate_bit.md R682): `F4 F4`. -/
def progSrlR (r : R8) : Program := single (fun s => applyRot .srl (getR r s) (setR r) s)

/-- The meaning of `SRL r`. -/
def execSrlR (r : R8) (s : State) : Result := run (progSrlR r) s

/-- `SRL (HL)` (spec/46_rotate_bit.md R682): `F4 F4 R4 W3`. -/
def progSrlAtHl : Program := rmwAtHl (applyRot .srl)

/-- The meaning of `SRL (HL)`. -/
def execSrlAtHl (s : State) : Result := run progSrlAtHl s

/-- `BIT b,r` (spec/46_rotate_bit.md R683): `F4 F4`. -/
def progBitR (b : BitVec 3) (r : R8) : Program := single (fun s => applyBit b (getR r s) s)

/-- The meaning of `BIT b,r`. -/
def execBitR (b : BitVec 3) (r : R8) (s : State) : Result := run (progBitR b r) s

/-- `BIT b,(HL)` (spec/46_rotate_bit.md R683): `F4 F4 R4`. -/
def progBitAtHl (b : BitVec 3) : Program :=
  [ fun s => reqRead s.hl s,
    fun s => signalDone (applyBit b s.seq.dataIn (holdFor 1 s)) ]

/-- The meaning of `BIT b,(HL)`. -/
def execBitAtHl (b : BitVec 3) (s : State) : Result := run (progBitAtHl b) s

/-- `RES b,r` (spec/46_rotate_bit.md R684): `F4 F4`. -/
def progResR (b : BitVec 3) (r : R8) : Program := single (fun s => setR r (resBit b (getR r s)) s)

/-- The meaning of `RES b,r`. -/
def execResR (b : BitVec 3) (r : R8) (s : State) : Result := run (progResR b r) s

/-- `RES b,(HL)` (spec/46_rotate_bit.md R684): `F4 F4 R4 W3`. -/
def progResAtHl (b : BitVec 3) : Program := rmwAtHl (applyRes b)

/-- The meaning of `RES b,(HL)`. -/
def execResAtHl (b : BitVec 3) (s : State) : Result := run (progResAtHl b) s

/-- `SET b,r` (spec/46_rotate_bit.md R685): `F4 F4`. -/
def progSetR (b : BitVec 3) (r : R8) : Program := single (fun s => setR r (setBit b (getR r s)) s)

/-- The meaning of `SET b,r`. -/
def execSetR (b : BitVec 3) (r : R8) (s : State) : Result := run (progSetR b r) s

/-- `SET b,(HL)` (spec/46_rotate_bit.md R685): `F4 F4 R4 W3`. -/
def progSetAtHl (b : BitVec 3) : Program := rmwAtHl (applySet b)

/-- The meaning of `SET b,(HL)`. -/
def execSetAtHl (b : BitVec 3) (s : State) : Result := run (progSetAtHl b) s

/-- `RRD` (spec/46_rotate_bit.md R687): `F4 F4 R3 E4 W3`. -/
def progRrd : Program := digitRotate rrdMemory rrdAccumulator

/-- The meaning of `RRD`. -/
def execRrd (s : State) : Result := run progRrd s

/-- `RLD` (spec/46_rotate_bit.md R686): `F4 F4 R3 E4 W3`. -/
def progRld : Program := digitRotate rldMemory rldAccumulator

/-- The meaning of `RLD`. -/
def execRld (s : State) : Result := run progRld s

/-- `RLC (IX+d)` (spec/46_rotate_bit.md R675): `F4 F4 R3 R5 R4 W3`. -/
def progRlcAtIx (d : Byte) : Program := rmwXyCb .ix d none (applyRot .rlc)

/-- The meaning of `RLC (IX+d)`. -/
def execRlcAtIx (d : Byte) (s : State) : Result := run (progRlcAtIx d) s

/-- `RLC (IX+d),r` (spec/46_rotate_bit.md R675): `F4 F4 R3 R5 R4 W3`. -/
def progRlcAtIxR (d : Byte) (r : R8) : Program := rmwXyCb .ix d (some r) (applyRot .rlc)

/-- The meaning of `RLC (IX+d),r`. -/
def execRlcAtIxR (d : Byte) (r : R8) (s : State) : Result := run (progRlcAtIxR d r) s

/-- `RRC (IX+d)` (spec/46_rotate_bit.md R676): `F4 F4 R3 R5 R4 W3`. -/
def progRrcAtIx (d : Byte) : Program := rmwXyCb .ix d none (applyRot .rrc)

/-- The meaning of `RRC (IX+d)`. -/
def execRrcAtIx (d : Byte) (s : State) : Result := run (progRrcAtIx d) s

/-- `RRC (IX+d),r` (spec/46_rotate_bit.md R676): `F4 F4 R3 R5 R4 W3`. -/
def progRrcAtIxR (d : Byte) (r : R8) : Program := rmwXyCb .ix d (some r) (applyRot .rrc)

/-- The meaning of `RRC (IX+d),r`. -/
def execRrcAtIxR (d : Byte) (r : R8) (s : State) : Result := run (progRrcAtIxR d r) s

/-- `RL (IX+d)` (spec/46_rotate_bit.md R677): `F4 F4 R3 R5 R4 W3`. -/
def progRlAtIx (d : Byte) : Program := rmwXyCb .ix d none (applyRot .rl)

/-- The meaning of `RL (IX+d)`. -/
def execRlAtIx (d : Byte) (s : State) : Result := run (progRlAtIx d) s

/-- `RL (IX+d),r` (spec/46_rotate_bit.md R677): `F4 F4 R3 R5 R4 W3`. -/
def progRlAtIxR (d : Byte) (r : R8) : Program := rmwXyCb .ix d (some r) (applyRot .rl)

/-- The meaning of `RL (IX+d),r`. -/
def execRlAtIxR (d : Byte) (r : R8) (s : State) : Result := run (progRlAtIxR d r) s

/-- `RR (IX+d)` (spec/46_rotate_bit.md R678): `F4 F4 R3 R5 R4 W3`. -/
def progRrAtIx (d : Byte) : Program := rmwXyCb .ix d none (applyRot .rr)

/-- The meaning of `RR (IX+d)`. -/
def execRrAtIx (d : Byte) (s : State) : Result := run (progRrAtIx d) s

/-- `RR (IX+d),r` (spec/46_rotate_bit.md R678): `F4 F4 R3 R5 R4 W3`. -/
def progRrAtIxR (d : Byte) (r : R8) : Program := rmwXyCb .ix d (some r) (applyRot .rr)

/-- The meaning of `RR (IX+d),r`. -/
def execRrAtIxR (d : Byte) (r : R8) (s : State) : Result := run (progRrAtIxR d r) s

/-- `SLA (IX+d)` (spec/46_rotate_bit.md R679): `F4 F4 R3 R5 R4 W3`. -/
def progSlaAtIx (d : Byte) : Program := rmwXyCb .ix d none (applyRot .sla)

/-- The meaning of `SLA (IX+d)`. -/
def execSlaAtIx (d : Byte) (s : State) : Result := run (progSlaAtIx d) s

/-- `SLA (IX+d),r` (spec/46_rotate_bit.md R679): `F4 F4 R3 R5 R4 W3`. -/
def progSlaAtIxR (d : Byte) (r : R8) : Program := rmwXyCb .ix d (some r) (applyRot .sla)

/-- The meaning of `SLA (IX+d),r`. -/
def execSlaAtIxR (d : Byte) (r : R8) (s : State) : Result := run (progSlaAtIxR d r) s

/-- `SRA (IX+d)` (spec/46_rotate_bit.md R680): `F4 F4 R3 R5 R4 W3`. -/
def progSraAtIx (d : Byte) : Program := rmwXyCb .ix d none (applyRot .sra)

/-- The meaning of `SRA (IX+d)`. -/
def execSraAtIx (d : Byte) (s : State) : Result := run (progSraAtIx d) s

/-- `SRA (IX+d),r` (spec/46_rotate_bit.md R680): `F4 F4 R3 R5 R4 W3`. -/
def progSraAtIxR (d : Byte) (r : R8) : Program := rmwXyCb .ix d (some r) (applyRot .sra)

/-- The meaning of `SRA (IX+d),r`. -/
def execSraAtIxR (d : Byte) (r : R8) (s : State) : Result := run (progSraAtIxR d r) s

/-- `SLL (IX+d)` (spec/46_rotate_bit.md R681): `F4 F4 R3 R5 R4 W3`. -/
def progSllAtIx (d : Byte) : Program := rmwXyCb .ix d none (applyRot .sll)

/-- The meaning of `SLL (IX+d)`. -/
def execSllAtIx (d : Byte) (s : State) : Result := run (progSllAtIx d) s

/-- `SLL (IX+d),r` (spec/46_rotate_bit.md R681): `F4 F4 R3 R5 R4 W3`. -/
def progSllAtIxR (d : Byte) (r : R8) : Program := rmwXyCb .ix d (some r) (applyRot .sll)

/-- The meaning of `SLL (IX+d),r`. -/
def execSllAtIxR (d : Byte) (r : R8) (s : State) : Result := run (progSllAtIxR d r) s

/-- `SRL (IX+d)` (spec/46_rotate_bit.md R682): `F4 F4 R3 R5 R4 W3`. -/
def progSrlAtIx (d : Byte) : Program := rmwXyCb .ix d none (applyRot .srl)

/-- The meaning of `SRL (IX+d)`. -/
def execSrlAtIx (d : Byte) (s : State) : Result := run (progSrlAtIx d) s

/-- `SRL (IX+d),r` (spec/46_rotate_bit.md R682): `F4 F4 R3 R5 R4 W3`. -/
def progSrlAtIxR (d : Byte) (r : R8) : Program := rmwXyCb .ix d (some r) (applyRot .srl)

/-- The meaning of `SRL (IX+d),r`. -/
def execSrlAtIxR (d : Byte) (r : R8) (s : State) : Result := run (progSrlAtIxR d r) s

/-- `BIT b,(IX+d)` (spec/46_rotate_bit.md R683): `F4 F4 R3 R5 R4`. -/
def progBitAtIx (b : BitVec 3) (d : Byte) (_z : BitVec 3) : Program :=
  [ fun s => let s := holdFor 2 (formAddress .ix d s)
             reqRead s.regs.wz s,
    fun s => signalDone (applyBit b s.seq.dataIn (holdFor 1 s)) ]

/-- The meaning of `BIT b,(IX+d)`. -/
def execBitAtIx (b : BitVec 3) (d : Byte) (z : BitVec 3) (s : State) : Result := run (progBitAtIx b d z) s

/-- `RES b,(IX+d)` (spec/46_rotate_bit.md R684): `F4 F4 R3 R5 R4 W3`. -/
def progResAtIx (b : BitVec 3) (d : Byte) : Program := rmwXyCb .ix d none (applyRes b)

/-- The meaning of `RES b,(IX+d)`. -/
def execResAtIx (b : BitVec 3) (d : Byte) (s : State) : Result := run (progResAtIx b d) s

/-- `RES b,(IX+d),r` (spec/46_rotate_bit.md R684): `F4 F4 R3 R5 R4 W3`. -/
def progResAtIxR (b : BitVec 3) (d : Byte) (r : R8) : Program := rmwXyCb .ix d (some r) (applyRes b)

/-- The meaning of `RES b,(IX+d),r`. -/
def execResAtIxR (b : BitVec 3) (d : Byte) (r : R8) (s : State) : Result := run (progResAtIxR b d r) s

/-- `SET b,(IX+d)` (spec/46_rotate_bit.md R685): `F4 F4 R3 R5 R4 W3`. -/
def progSetAtIx (b : BitVec 3) (d : Byte) : Program := rmwXyCb .ix d none (applySet b)

/-- The meaning of `SET b,(IX+d)`. -/
def execSetAtIx (b : BitVec 3) (d : Byte) (s : State) : Result := run (progSetAtIx b d) s

/-- `SET b,(IX+d),r` (spec/46_rotate_bit.md R685): `F4 F4 R3 R5 R4 W3`. -/
def progSetAtIxR (b : BitVec 3) (d : Byte) (r : R8) : Program := rmwXyCb .ix d (some r) (applySet b)

/-- The meaning of `SET b,(IX+d),r`. -/
def execSetAtIxR (b : BitVec 3) (d : Byte) (r : R8) (s : State) : Result := run (progSetAtIxR b d r) s

/-- `RLC (IY+d)` (spec/46_rotate_bit.md R675): `F4 F4 R3 R5 R4 W3`. -/
def progRlcAtIy (d : Byte) : Program := rmwXyCb .iy d none (applyRot .rlc)

/-- The meaning of `RLC (IY+d)`. -/
def execRlcAtIy (d : Byte) (s : State) : Result := run (progRlcAtIy d) s

/-- `RLC (IY+d),r` (spec/46_rotate_bit.md R675): `F4 F4 R3 R5 R4 W3`. -/
def progRlcAtIyR (d : Byte) (r : R8) : Program := rmwXyCb .iy d (some r) (applyRot .rlc)

/-- The meaning of `RLC (IY+d),r`. -/
def execRlcAtIyR (d : Byte) (r : R8) (s : State) : Result := run (progRlcAtIyR d r) s

/-- `RRC (IY+d)` (spec/46_rotate_bit.md R676): `F4 F4 R3 R5 R4 W3`. -/
def progRrcAtIy (d : Byte) : Program := rmwXyCb .iy d none (applyRot .rrc)

/-- The meaning of `RRC (IY+d)`. -/
def execRrcAtIy (d : Byte) (s : State) : Result := run (progRrcAtIy d) s

/-- `RRC (IY+d),r` (spec/46_rotate_bit.md R676): `F4 F4 R3 R5 R4 W3`. -/
def progRrcAtIyR (d : Byte) (r : R8) : Program := rmwXyCb .iy d (some r) (applyRot .rrc)

/-- The meaning of `RRC (IY+d),r`. -/
def execRrcAtIyR (d : Byte) (r : R8) (s : State) : Result := run (progRrcAtIyR d r) s

/-- `RL (IY+d)` (spec/46_rotate_bit.md R677): `F4 F4 R3 R5 R4 W3`. -/
def progRlAtIy (d : Byte) : Program := rmwXyCb .iy d none (applyRot .rl)

/-- The meaning of `RL (IY+d)`. -/
def execRlAtIy (d : Byte) (s : State) : Result := run (progRlAtIy d) s

/-- `RL (IY+d),r` (spec/46_rotate_bit.md R677): `F4 F4 R3 R5 R4 W3`. -/
def progRlAtIyR (d : Byte) (r : R8) : Program := rmwXyCb .iy d (some r) (applyRot .rl)

/-- The meaning of `RL (IY+d),r`. -/
def execRlAtIyR (d : Byte) (r : R8) (s : State) : Result := run (progRlAtIyR d r) s

/-- `RR (IY+d)` (spec/46_rotate_bit.md R678): `F4 F4 R3 R5 R4 W3`. -/
def progRrAtIy (d : Byte) : Program := rmwXyCb .iy d none (applyRot .rr)

/-- The meaning of `RR (IY+d)`. -/
def execRrAtIy (d : Byte) (s : State) : Result := run (progRrAtIy d) s

/-- `RR (IY+d),r` (spec/46_rotate_bit.md R678): `F4 F4 R3 R5 R4 W3`. -/
def progRrAtIyR (d : Byte) (r : R8) : Program := rmwXyCb .iy d (some r) (applyRot .rr)

/-- The meaning of `RR (IY+d),r`. -/
def execRrAtIyR (d : Byte) (r : R8) (s : State) : Result := run (progRrAtIyR d r) s

/-- `SLA (IY+d)` (spec/46_rotate_bit.md R679): `F4 F4 R3 R5 R4 W3`. -/
def progSlaAtIy (d : Byte) : Program := rmwXyCb .iy d none (applyRot .sla)

/-- The meaning of `SLA (IY+d)`. -/
def execSlaAtIy (d : Byte) (s : State) : Result := run (progSlaAtIy d) s

/-- `SLA (IY+d),r` (spec/46_rotate_bit.md R679): `F4 F4 R3 R5 R4 W3`. -/
def progSlaAtIyR (d : Byte) (r : R8) : Program := rmwXyCb .iy d (some r) (applyRot .sla)

/-- The meaning of `SLA (IY+d),r`. -/
def execSlaAtIyR (d : Byte) (r : R8) (s : State) : Result := run (progSlaAtIyR d r) s

/-- `SRA (IY+d)` (spec/46_rotate_bit.md R680): `F4 F4 R3 R5 R4 W3`. -/
def progSraAtIy (d : Byte) : Program := rmwXyCb .iy d none (applyRot .sra)

/-- The meaning of `SRA (IY+d)`. -/
def execSraAtIy (d : Byte) (s : State) : Result := run (progSraAtIy d) s

/-- `SRA (IY+d),r` (spec/46_rotate_bit.md R680): `F4 F4 R3 R5 R4 W3`. -/
def progSraAtIyR (d : Byte) (r : R8) : Program := rmwXyCb .iy d (some r) (applyRot .sra)

/-- The meaning of `SRA (IY+d),r`. -/
def execSraAtIyR (d : Byte) (r : R8) (s : State) : Result := run (progSraAtIyR d r) s

/-- `SLL (IY+d)` (spec/46_rotate_bit.md R681): `F4 F4 R3 R5 R4 W3`. -/
def progSllAtIy (d : Byte) : Program := rmwXyCb .iy d none (applyRot .sll)

/-- The meaning of `SLL (IY+d)`. -/
def execSllAtIy (d : Byte) (s : State) : Result := run (progSllAtIy d) s

/-- `SLL (IY+d),r` (spec/46_rotate_bit.md R681): `F4 F4 R3 R5 R4 W3`. -/
def progSllAtIyR (d : Byte) (r : R8) : Program := rmwXyCb .iy d (some r) (applyRot .sll)

/-- The meaning of `SLL (IY+d),r`. -/
def execSllAtIyR (d : Byte) (r : R8) (s : State) : Result := run (progSllAtIyR d r) s

/-- `SRL (IY+d)` (spec/46_rotate_bit.md R682): `F4 F4 R3 R5 R4 W3`. -/
def progSrlAtIy (d : Byte) : Program := rmwXyCb .iy d none (applyRot .srl)

/-- The meaning of `SRL (IY+d)`. -/
def execSrlAtIy (d : Byte) (s : State) : Result := run (progSrlAtIy d) s

/-- `SRL (IY+d),r` (spec/46_rotate_bit.md R682): `F4 F4 R3 R5 R4 W3`. -/
def progSrlAtIyR (d : Byte) (r : R8) : Program := rmwXyCb .iy d (some r) (applyRot .srl)

/-- The meaning of `SRL (IY+d),r`. -/
def execSrlAtIyR (d : Byte) (r : R8) (s : State) : Result := run (progSrlAtIyR d r) s

/-- `BIT b,(IY+d)` (spec/46_rotate_bit.md R683): `F4 F4 R3 R5 R4`. -/
def progBitAtIy (b : BitVec 3) (d : Byte) (_z : BitVec 3) : Program :=
  [ fun s => let s := holdFor 2 (formAddress .iy d s)
             reqRead s.regs.wz s,
    fun s => signalDone (applyBit b s.seq.dataIn (holdFor 1 s)) ]

/-- The meaning of `BIT b,(IY+d)`. -/
def execBitAtIy (b : BitVec 3) (d : Byte) (z : BitVec 3) (s : State) : Result := run (progBitAtIy b d z) s

/-- `RES b,(IY+d)` (spec/46_rotate_bit.md R684): `F4 F4 R3 R5 R4 W3`. -/
def progResAtIy (b : BitVec 3) (d : Byte) : Program := rmwXyCb .iy d none (applyRes b)

/-- The meaning of `RES b,(IY+d)`. -/
def execResAtIy (b : BitVec 3) (d : Byte) (s : State) : Result := run (progResAtIy b d) s

/-- `RES b,(IY+d),r` (spec/46_rotate_bit.md R684): `F4 F4 R3 R5 R4 W3`. -/
def progResAtIyR (b : BitVec 3) (d : Byte) (r : R8) : Program := rmwXyCb .iy d (some r) (applyRes b)

/-- The meaning of `RES b,(IY+d),r`. -/
def execResAtIyR (b : BitVec 3) (d : Byte) (r : R8) (s : State) : Result := run (progResAtIyR b d r) s

/-- `SET b,(IY+d)` (spec/46_rotate_bit.md R685): `F4 F4 R3 R5 R4 W3`. -/
def progSetAtIy (b : BitVec 3) (d : Byte) : Program := rmwXyCb .iy d none (applySet b)

/-- The meaning of `SET b,(IY+d)`. -/
def execSetAtIy (b : BitVec 3) (d : Byte) (s : State) : Result := run (progSetAtIy b d) s

/-- `SET b,(IY+d),r` (spec/46_rotate_bit.md R685): `F4 F4 R3 R5 R4 W3`. -/
def progSetAtIyR (b : BitVec 3) (d : Byte) (r : R8) : Program := rmwXyCb .iy d (some r) (applySet b)

/-- The meaning of `SET b,(IY+d),r`. -/
def execSetAtIyR (b : BitVec 3) (d : Byte) (r : R8) (s : State) : Result := run (progSetAtIyR b d r) s

end Sys2Proof.Machine
end

