-- ==== Sys2Proof/Machine/StackControl.lean ====
section
/-! DEFINITION. Stack and control-transfer instructions (spec/45_stack_control.md). Each instruction has its steps after the last opcode or operand byte
(`prog…`, spec/40_step_machine.md R411), which the edge-level machine runs one by one, and its meaning (`exec…`),
which runs them all. -/

namespace Sys2Proof.Machine

/-- `DJNZ e` (spec/45_stack_control.md R627): `F5 R3 E5 (B-1 != 0) | F5 R3 (B-1 = 0)`. -/
def progDjnz (e : Byte) : Program :=
  [ fun s => let s := setR .b (s.regs.b - 1) s
             if s.regs.b = 0 then signalDone s else reqExec 5 s,
    fun s => signalDone (jumpRelative e s) ]

/-- The meaning of `DJNZ e`. -/
def execDjnz (e : Byte) (s : State) : Result := run (progDjnz e) s

/-- `JR e` (spec/45_stack_control.md R624): `F4 R3 E5`. -/
def progJr (e : Byte) : Program := [reqExec 5, fun s => signalDone (jumpRelative e s)]

/-- The meaning of `JR e`. -/
def execJr (e : Byte) (s : State) : Result := run (progJr e) s

/-- `JR cc,e` (spec/45_stack_control.md R625): `F4 R3 E5 (taken) | F4 R3 (not taken)`. -/
def progJrCc (cc : JCC) (e : Byte) : Program :=
  [ fun s => if condition (jumpCondition cc) s then reqExec 5 s else signalDone s,
    fun s => signalDone (jumpRelative e s) ]

/-- The meaning of `JR cc,e`. -/
def execJrCc (cc : JCC) (e : Byte) (s : State) : Result := run (progJrCc cc e) s

/-- `RET cc` (spec/45_stack_control.md R631): `F5 R3 R3 (taken) | F5 (not taken)`. -/
def progRetCc (cc : CC) : Program :=
  (fun s => let s := holdFor 1 s
            if condition cc s then reqRead s.regs.sp s else signalDone s) :: popRest setPc

/-- The meaning of `RET cc`. -/
def execRetCc (cc : CC) (s : State) : Result := run (progRetCc cc) s

/-- `POP rp2` (spec/45_stack_control.md R621): `F4 R3 R3`. -/
def progPopRp2 (rp2 : RP2) : Program := popInto (setRp2 rp2)

/-- The meaning of `POP rp2`. -/
def execPopRp2 (rp2 : RP2) (s : State) : Result := run (progPopRp2 rp2) s

/-- `RET` (spec/45_stack_control.md R630): `F4 R3 R3`. -/
def progRet : Program := popInto setPc

/-- The meaning of `RET`. -/
def execRet (s : State) : Result := run progRet s

/-- `JP (HL)` (spec/45_stack_control.md R626): `F4`. -/
def progJpHl : Program := single (fun s => setPc s.hl s)

/-- The meaning of `JP (HL)`. -/
def execJpHl (s : State) : Result := run progJpHl s

/-- `JP cc,nn` (spec/45_stack_control.md R623): `F4 R3 R3`. -/
def progJpCcNn (cc : CC) (nn : Word) : Program := single (fun s => if condition cc s then setPc nn s else s)

/-- The meaning of `JP cc,nn`. -/
def execJpCcNn (cc : CC) (nn : Word) (s : State) : Result := run (progJpCcNn cc nn) s

/-- `JP nn` (spec/45_stack_control.md R622): `F4 R3 R3`. -/
def progJpNn (nn : Word) : Program := single (setPc nn)

/-- The meaning of `JP nn`. -/
def execJpNn (nn : Word) (s : State) : Result := run (progJpNn nn) s

/-- `CALL cc,nn` (spec/45_stack_control.md R629): `F4 R3 R4 W3 W3 (taken) | F4 R3 R3 (not taken)`. -/
def progCallCcNn (cc : CC) (nn : Word) : Program :=
  (fun s => if condition cc s then reqPushFirst s.regs.pc (holdFor 1 s) else signalDone s)
    :: pushRest (fun s => s.regs.pc) (setPc nn)

/-- The meaning of `CALL cc,nn`. -/
def execCallCcNn (cc : CC) (nn : Word) (s : State) : Result := run (progCallCcNn cc nn) s

/-- `PUSH rp2` (spec/45_stack_control.md R620): `F5 W3 W3`. -/
def progPushRp2 (rp2 : RP2) : Program := pushThen (getRp2 rp2) (fun s => s)

/-- The meaning of `PUSH rp2`. -/
def execPushRp2 (rp2 : RP2) (s : State) : Result := run (progPushRp2 rp2) s

/-- `CALL nn` (spec/45_stack_control.md R628): `F4 R3 R4 W3 W3`. -/
def progCallNn (nn : Word) : Program := pushThen (fun s => s.regs.pc) (setPc nn)

/-- The meaning of `CALL nn`. -/
def execCallNn (nn : Word) (s : State) : Result := run (progCallNn nn) s

/-- `RST p` (spec/45_stack_control.md R634): `F5 W3 W3`. -/
def progRst (y : BitVec 3) : Program := pushThen (fun s => s.regs.pc) (setPc (restartAddress y))

/-- The meaning of `RST p`. -/
def execRst (y : BitVec 3) (s : State) : Result := run (progRst y) s

/-- `RETN` (spec/45_stack_control.md R633): `F4 F4 R3 R3`. -/
def progRetn (_y : BitVec 3) : Program := popInto (fun v s => restoreIff (setPc v s))

/-- The meaning of `RETN`. -/
def execRetn (y : BitVec 3) (s : State) : Result := run (progRetn y) s

/-- `RETI` (spec/45_stack_control.md R632): `F4 F4 R3 R3`. -/
def progReti : Program := popInto (fun v s => restoreIff (setPc v s))

/-- The meaning of `RETI`. -/
def execReti (s : State) : Result := run progReti s

/-- `POP IX` (spec/45_stack_control.md R621): `F4 F4 R3 R3`. -/
def progPopIx : Program := popInto (setX .ix)

/-- The meaning of `POP IX`. -/
def execPopIx (s : State) : Result := run progPopIx s

/-- `PUSH IX` (spec/45_stack_control.md R620): `F4 F5 W3 W3`. -/
def progPushIx : Program := pushThen (getX .ix) (fun s => s)

/-- The meaning of `PUSH IX`. -/
def execPushIx (s : State) : Result := run progPushIx s

/-- `JP (IX)` (spec/45_stack_control.md R626): `F4 F4`. -/
def progJpIx : Program := single (fun s => setPc (getX .ix s) s)

/-- The meaning of `JP (IX)`. -/
def execJpIx (s : State) : Result := run progJpIx s

/-- `POP IY` (spec/45_stack_control.md R621): `F4 F4 R3 R3`. -/
def progPopIy : Program := popInto (setX .iy)

/-- The meaning of `POP IY`. -/
def execPopIy (s : State) : Result := run progPopIy s

/-- `PUSH IY` (spec/45_stack_control.md R620): `F4 F5 W3 W3`. -/
def progPushIy : Program := pushThen (getX .iy) (fun s => s)

/-- The meaning of `PUSH IY`. -/
def execPushIy (s : State) : Result := run progPushIy s

/-- `JP (IY)` (spec/45_stack_control.md R626): `F4 F4`. -/
def progJpIy : Program := single (fun s => setPc (getX .iy s) s)

/-- The meaning of `JP (IY)`. -/
def execJpIy (s : State) : Result := run progJpIy s

end Sys2Proof.Machine
end

