-- ==== Sys2Proof/Syntax.lean ====
section
/-! DEFINITION. The instructions: one constructor per row of spec/opcode_table.json, first the rows with
operands or fields, then the others, each in the table's order (Lean's runtime allows no field in a constructor past
the 244th). A constructor's docstring gives the row's form and encoding; its arguments are the fields and operands of that encoding. -/

namespace Sys2Proof

/-- An instruction, or a prefix byte, which is a unit of its own (spec/49_cpu_control.md R785; log 10). -/
inductive Instr where
  /-- `DJNZ e`: `00010000 eeeeeeee` -/
  | djnz (e : Byte)
  /-- `JR e`: `00011000 eeeeeeee` -/
  | jr (e : Byte)
  /-- `JR cc,e`: `001cc000 eeeeeeee` -/
  | jrCc (cc : JCC) (e : Byte)
  /-- `LD rp,nn`: `00pp0001 nnnnnnnn (low) nnnnnnnn (high)` -/
  | ldRpNn (rp : RP) (nn : Word)
  /-- `ADD HL,rp`: `00pp1001` -/
  | addHlRp (rp : RP)
  /-- `LD (nn),HL`: `00100010 nnnnnnnn (low) nnnnnnnn (high)` -/
  | ldAtNnHl (nn : Word)
  /-- `LD (nn),A`: `00110010 nnnnnnnn (low) nnnnnnnn (high)` -/
  | ldAtNnA (nn : Word)
  /-- `LD HL,(nn)`: `00101010 nnnnnnnn (low) nnnnnnnn (high)` -/
  | ldHlAtNn (nn : Word)
  /-- `LD A,(nn)`: `00111010 nnnnnnnn (low) nnnnnnnn (high)` -/
  | ldAAtNn (nn : Word)
  /-- `INC rp`: `00pp0011` -/
  | incRp (rp : RP)
  /-- `DEC rp`: `00pp1011` -/
  | decRp (rp : RP)
  /-- `INC r`: `00yyy100` -/
  | incR (r : R8)
  /-- `DEC r`: `00yyy101` -/
  | decR (r : R8)
  /-- `LD r,n`: `00yyy110 nnnnnnnn` -/
  | ldRN (r : R8) (n : Byte)
  /-- `LD (HL),n`: `00110110 nnnnnnnn` -/
  | ldAtHlN (n : Byte)
  /-- `LD r,r'`: `01yyyzzz` -/
  | ldRR (r : R8) (r' : R8)
  /-- `LD r,(HL)`: `01yyy110` -/
  | ldRAtHl (r : R8)
  /-- `LD (HL),r`: `01110zzz` -/
  | ldAtHlR (r : R8)
  /-- `ADD A,r`: `10000zzz` -/
  | addAR (r : R8)
  /-- `ADD A,n`: `11000110 nnnnnnnn` -/
  | addAN (n : Byte)
  /-- `ADC A,r`: `10001zzz` -/
  | adcAR (r : R8)
  /-- `ADC A,n`: `11001110 nnnnnnnn` -/
  | adcAN (n : Byte)
  /-- `SUB r`: `10010zzz` -/
  | subR (r : R8)
  /-- `SUB n`: `11010110 nnnnnnnn` -/
  | subN (n : Byte)
  /-- `SBC A,r`: `10011zzz` -/
  | sbcAR (r : R8)
  /-- `SBC A,n`: `11011110 nnnnnnnn` -/
  | sbcAN (n : Byte)
  /-- `AND r`: `10100zzz` -/
  | andR (r : R8)
  /-- `AND n`: `11100110 nnnnnnnn` -/
  | andN (n : Byte)
  /-- `XOR r`: `10101zzz` -/
  | xorR (r : R8)
  /-- `XOR n`: `11101110 nnnnnnnn` -/
  | xorN (n : Byte)
  /-- `OR r`: `10110zzz` -/
  | orR (r : R8)
  /-- `OR n`: `11110110 nnnnnnnn` -/
  | orN (n : Byte)
  /-- `CP r`: `10111zzz` -/
  | cpR (r : R8)
  /-- `CP n`: `11111110 nnnnnnnn` -/
  | cpN (n : Byte)
  /-- `RET cc`: `11ccc000` -/
  | retCc (cc : CC)
  /-- `POP rp2`: `11pp0001` -/
  | popRp2 (rp2 : RP2)
  /-- `JP cc,nn`: `11ccc010 nnnnnnnn (low) nnnnnnnn (high)` -/
  | jpCcNn (cc : CC) (nn : Word)
  /-- `JP nn`: `11000011 nnnnnnnn (low) nnnnnnnn (high)` -/
  | jpNn (nn : Word)
  /-- `OUT (n),A`: `11010011 nnnnnnnn` -/
  | outAtNA (n : Byte)
  /-- `IN A,(n)`: `11011011 nnnnnnnn` -/
  | inAAtN (n : Byte)
  /-- `CALL cc,nn`: `11ccc100 nnnnnnnn (low) nnnnnnnn (high)` -/
  | callCcNn (cc : CC) (nn : Word)
  /-- `PUSH rp2`: `11pp0101` -/
  | pushRp2 (rp2 : RP2)
  /-- `CALL nn`: `11001101 nnnnnnnn (low) nnnnnnnn (high)` -/
  | callNn (nn : Word)
  /-- `RST p`: `11ttt111` -/
  | rst (y : BitVec 3)
  /-- `RLC r`: `11001011 00000zzz` -/
  | rlcR (r : R8)
  /-- `RRC r`: `11001011 00001zzz` -/
  | rrcR (r : R8)
  /-- `RL r`: `11001011 00010zzz` -/
  | rlR (r : R8)
  /-- `RR r`: `11001011 00011zzz` -/
  | rrR (r : R8)
  /-- `SLA r`: `11001011 00100zzz` -/
  | slaR (r : R8)
  /-- `SRA r`: `11001011 00101zzz` -/
  | sraR (r : R8)
  /-- `SLL r`: `11001011 00110zzz` -/
  | sllR (r : R8)
  /-- `SRL r`: `11001011 00111zzz` -/
  | srlR (r : R8)
  /-- `BIT b,r`: `11001011 01bbbzzz` -/
  | bitR (b : BitVec 3) (r : R8)
  /-- `BIT b,(HL)`: `11001011 01bbb110` -/
  | bitAtHl (b : BitVec 3)
  /-- `RES b,r`: `11001011 10bbbzzz` -/
  | resR (b : BitVec 3) (r : R8)
  /-- `RES b,(HL)`: `11001011 10bbb110` -/
  | resAtHl (b : BitVec 3)
  /-- `SET b,r`: `11001011 11bbbzzz` -/
  | setR (b : BitVec 3) (r : R8)
  /-- `SET b,(HL)`: `11001011 11bbb110` -/
  | setAtHl (b : BitVec 3)
  /-- `IN r,(C)`: `11101101 01yyy000` -/
  | inRC (r : R8)
  /-- `OUT (C),r`: `11101101 01yyy001` -/
  | outCR (r : R8)
  /-- `SBC HL,rp`: `11101101 01pp0010` -/
  | sbcHlRp (rp : RP)
  /-- `ADC HL,rp`: `11101101 01pp1010` -/
  | adcHlRp (rp : RP)
  /-- `LD (nn),rp`: `11101101 01pp0011 nnnnnnnn (low) nnnnnnnn (high)` -/
  | ldAtNnRp (rp : RP) (nn : Word)
  /-- `LD rp,(nn)`: `11101101 01pp1011 nnnnnnnn (low) nnnnnnnn (high)` -/
  | ldRpAtNn (rp : RP) (nn : Word)
  /-- `NEG`: `11101101 01yyy100` -/
  | neg (y : BitVec 3)
  /-- `RETN`: `11101101 01yyy101` -/
  | retn (y : BitVec 3)
  /-- `IM m`: `11101101 01yyy110` -/
  | im (y : BitVec 3)
  /-- `NOP (ED 77, ED 7F)`: `11101101 0111q111` -/
  | nopEd (q : BitVec 1)
  /-- `NONI (invalid ED opcode)`: `11101101 xxxxxxxx` -/
  | noni (op : Byte)
  /-- `ADD IX,rp`: `11011101 00pp1001` -/
  | addIxRp (rp : RP)
  /-- `LD IX,nn`: `11011101 00100001 nnnnnnnn (low) nnnnnnnn (high)` -/
  | ldIxNn (nn : Word)
  /-- `LD (nn),IX`: `11011101 00100010 nnnnnnnn (low) nnnnnnnn (high)` -/
  | ldAtNnIx (nn : Word)
  /-- `LD IX,(nn)`: `11011101 00101010 nnnnnnnn (low) nnnnnnnn (high)` -/
  | ldIxAtNn (nn : Word)
  /-- `INC IXH/IXL`: `11011101 00yyy100` -/
  | incIxHalf (half : Half)
  /-- `DEC IXH/IXL`: `11011101 00yyy101` -/
  | decIxHalf (half : Half)
  /-- `LD IXH/IXL,n`: `11011101 00yyy110 nnnnnnnn` -/
  | ldIxHalfN (half : Half) (n : Byte)
  /-- `INC (IX+d)`: `11011101 00110100 dddddddd` -/
  | incAtIx (d : Byte)
  /-- `DEC (IX+d)`: `11011101 00110101 dddddddd` -/
  | decAtIx (d : Byte)
  /-- `LD (IX+d),n`: `11011101 00110110 dddddddd nnnnnnnn` -/
  | ldAtIxN (d : Byte) (n : Byte)
  /-- `LD r,r' (IX halves)`: `11011101 01yyyzzz` -/
  | ldRRIxHalves (r : R8) (r' : R8)
  /-- `LD r,(IX+d)`: `11011101 01yyy110 dddddddd` -/
  | ldRAtIx (r : R8) (d : Byte)
  /-- `LD (IX+d),r`: `11011101 01110zzz dddddddd` -/
  | ldAtIxR (d : Byte) (r : R8)
  /-- `ADD A,IXH/IXL`: `11011101 10000zzz` -/
  | addAIxHalf (half : Half)
  /-- `ADD A,(IX+d)`: `11011101 10000110 dddddddd` -/
  | addAAtIx (d : Byte)
  /-- `ADC A,IXH/IXL`: `11011101 10001zzz` -/
  | adcAIxHalf (half : Half)
  /-- `ADC A,(IX+d)`: `11011101 10001110 dddddddd` -/
  | adcAAtIx (d : Byte)
  /-- `SUB IXH/IXL`: `11011101 10010zzz` -/
  | subIxHalf (half : Half)
  /-- `SUB (IX+d)`: `11011101 10010110 dddddddd` -/
  | subAtIx (d : Byte)
  /-- `SBC A,IXH/IXL`: `11011101 10011zzz` -/
  | sbcAIxHalf (half : Half)
  /-- `SBC A,(IX+d)`: `11011101 10011110 dddddddd` -/
  | sbcAAtIx (d : Byte)
  /-- `AND IXH/IXL`: `11011101 10100zzz` -/
  | andIxHalf (half : Half)
  /-- `AND (IX+d)`: `11011101 10100110 dddddddd` -/
  | andAtIx (d : Byte)
  /-- `XOR IXH/IXL`: `11011101 10101zzz` -/
  | xorIxHalf (half : Half)
  /-- `XOR (IX+d)`: `11011101 10101110 dddddddd` -/
  | xorAtIx (d : Byte)
  /-- `OR IXH/IXL`: `11011101 10110zzz` -/
  | orIxHalf (half : Half)
  /-- `OR (IX+d)`: `11011101 10110110 dddddddd` -/
  | orAtIx (d : Byte)
  /-- `CP IXH/IXL`: `11011101 10111zzz` -/
  | cpIxHalf (half : Half)
  /-- `CP (IX+d)`: `11011101 10111110 dddddddd` -/
  | cpAtIx (d : Byte)
  /-- `DD prefix without effect`: `11011101 xxxxxxxx` -/
  | ddNoEffect (op : Byte)
  /-- `RLC (IX+d)`: `11011101 11001011 dddddddd 00000110` -/
  | rlcAtIx (d : Byte)
  /-- `RLC (IX+d),r`: `11011101 11001011 dddddddd 00000zzz` -/
  | rlcAtIxR (d : Byte) (r : R8)
  /-- `RRC (IX+d)`: `11011101 11001011 dddddddd 00001110` -/
  | rrcAtIx (d : Byte)
  /-- `RRC (IX+d),r`: `11011101 11001011 dddddddd 00001zzz` -/
  | rrcAtIxR (d : Byte) (r : R8)
  /-- `RL (IX+d)`: `11011101 11001011 dddddddd 00010110` -/
  | rlAtIx (d : Byte)
  /-- `RL (IX+d),r`: `11011101 11001011 dddddddd 00010zzz` -/
  | rlAtIxR (d : Byte) (r : R8)
  /-- `RR (IX+d)`: `11011101 11001011 dddddddd 00011110` -/
  | rrAtIx (d : Byte)
  /-- `RR (IX+d),r`: `11011101 11001011 dddddddd 00011zzz` -/
  | rrAtIxR (d : Byte) (r : R8)
  /-- `SLA (IX+d)`: `11011101 11001011 dddddddd 00100110` -/
  | slaAtIx (d : Byte)
  /-- `SLA (IX+d),r`: `11011101 11001011 dddddddd 00100zzz` -/
  | slaAtIxR (d : Byte) (r : R8)
  /-- `SRA (IX+d)`: `11011101 11001011 dddddddd 00101110` -/
  | sraAtIx (d : Byte)
  /-- `SRA (IX+d),r`: `11011101 11001011 dddddddd 00101zzz` -/
  | sraAtIxR (d : Byte) (r : R8)
  /-- `SLL (IX+d)`: `11011101 11001011 dddddddd 00110110` -/
  | sllAtIx (d : Byte)
  /-- `SLL (IX+d),r`: `11011101 11001011 dddddddd 00110zzz` -/
  | sllAtIxR (d : Byte) (r : R8)
  /-- `SRL (IX+d)`: `11011101 11001011 dddddddd 00111110` -/
  | srlAtIx (d : Byte)
  /-- `SRL (IX+d),r`: `11011101 11001011 dddddddd 00111zzz` -/
  | srlAtIxR (d : Byte) (r : R8)
  /-- `BIT b,(IX+d)`: `11011101 11001011 dddddddd 01bbbzzz` -/
  | bitAtIx (b : BitVec 3) (d : Byte) (z : BitVec 3)
  /-- `RES b,(IX+d)`: `11011101 11001011 dddddddd 10bbb110` -/
  | resAtIx (b : BitVec 3) (d : Byte)
  /-- `RES b,(IX+d),r`: `11011101 11001011 dddddddd 10bbbzzz` -/
  | resAtIxR (b : BitVec 3) (d : Byte) (r : R8)
  /-- `SET b,(IX+d)`: `11011101 11001011 dddddddd 11bbb110` -/
  | setAtIx (b : BitVec 3) (d : Byte)
  /-- `SET b,(IX+d),r`: `11011101 11001011 dddddddd 11bbbzzz` -/
  | setAtIxR (b : BitVec 3) (d : Byte) (r : R8)
  /-- `ADD IY,rp`: `11111101 00pp1001` -/
  | addIyRp (rp : RP)
  /-- `LD IY,nn`: `11111101 00100001 nnnnnnnn (low) nnnnnnnn (high)` -/
  | ldIyNn (nn : Word)
  /-- `LD (nn),IY`: `11111101 00100010 nnnnnnnn (low) nnnnnnnn (high)` -/
  | ldAtNnIy (nn : Word)
  /-- `LD IY,(nn)`: `11111101 00101010 nnnnnnnn (low) nnnnnnnn (high)` -/
  | ldIyAtNn (nn : Word)
  /-- `INC IYH/IYL`: `11111101 00yyy100` -/
  | incIyHalf (half : Half)
  /-- `DEC IYH/IYL`: `11111101 00yyy101` -/
  | decIyHalf (half : Half)
  /-- `LD IYH/IYL,n`: `11111101 00yyy110 nnnnnnnn` -/
  | ldIyHalfN (half : Half) (n : Byte)
  /-- `INC (IY+d)`: `11111101 00110100 dddddddd` -/
  | incAtIy (d : Byte)
  /-- `DEC (IY+d)`: `11111101 00110101 dddddddd` -/
  | decAtIy (d : Byte)
  /-- `LD (IY+d),n`: `11111101 00110110 dddddddd nnnnnnnn` -/
  | ldAtIyN (d : Byte) (n : Byte)
  /-- `LD r,r' (IY halves)`: `11111101 01yyyzzz` -/
  | ldRRIyHalves (r : R8) (r' : R8)
  /-- `LD r,(IY+d)`: `11111101 01yyy110 dddddddd` -/
  | ldRAtIy (r : R8) (d : Byte)
  /-- `LD (IY+d),r`: `11111101 01110zzz dddddddd` -/
  | ldAtIyR (d : Byte) (r : R8)
  /-- `ADD A,IYH/IYL`: `11111101 10000zzz` -/
  | addAIyHalf (half : Half)
  /-- `ADD A,(IY+d)`: `11111101 10000110 dddddddd` -/
  | addAAtIy (d : Byte)
  /-- `ADC A,IYH/IYL`: `11111101 10001zzz` -/
  | adcAIyHalf (half : Half)
  /-- `ADC A,(IY+d)`: `11111101 10001110 dddddddd` -/
  | adcAAtIy (d : Byte)
  /-- `SUB IYH/IYL`: `11111101 10010zzz` -/
  | subIyHalf (half : Half)
  /-- `SUB (IY+d)`: `11111101 10010110 dddddddd` -/
  | subAtIy (d : Byte)
  /-- `SBC A,IYH/IYL`: `11111101 10011zzz` -/
  | sbcAIyHalf (half : Half)
  /-- `SBC A,(IY+d)`: `11111101 10011110 dddddddd` -/
  | sbcAAtIy (d : Byte)
  /-- `AND IYH/IYL`: `11111101 10100zzz` -/
  | andIyHalf (half : Half)
  /-- `AND (IY+d)`: `11111101 10100110 dddddddd` -/
  | andAtIy (d : Byte)
  /-- `XOR IYH/IYL`: `11111101 10101zzz` -/
  | xorIyHalf (half : Half)
  /-- `XOR (IY+d)`: `11111101 10101110 dddddddd` -/
  | xorAtIy (d : Byte)
  /-- `OR IYH/IYL`: `11111101 10110zzz` -/
  | orIyHalf (half : Half)
  /-- `OR (IY+d)`: `11111101 10110110 dddddddd` -/
  | orAtIy (d : Byte)
  /-- `CP IYH/IYL`: `11111101 10111zzz` -/
  | cpIyHalf (half : Half)
  /-- `CP (IY+d)`: `11111101 10111110 dddddddd` -/
  | cpAtIy (d : Byte)
  /-- `FD prefix without effect`: `11111101 xxxxxxxx` -/
  | fdNoEffect (op : Byte)
  /-- `RLC (IY+d)`: `11111101 11001011 dddddddd 00000110` -/
  | rlcAtIy (d : Byte)
  /-- `RLC (IY+d),r`: `11111101 11001011 dddddddd 00000zzz` -/
  | rlcAtIyR (d : Byte) (r : R8)
  /-- `RRC (IY+d)`: `11111101 11001011 dddddddd 00001110` -/
  | rrcAtIy (d : Byte)
  /-- `RRC (IY+d),r`: `11111101 11001011 dddddddd 00001zzz` -/
  | rrcAtIyR (d : Byte) (r : R8)
  /-- `RL (IY+d)`: `11111101 11001011 dddddddd 00010110` -/
  | rlAtIy (d : Byte)
  /-- `RL (IY+d),r`: `11111101 11001011 dddddddd 00010zzz` -/
  | rlAtIyR (d : Byte) (r : R8)
  /-- `RR (IY+d)`: `11111101 11001011 dddddddd 00011110` -/
  | rrAtIy (d : Byte)
  /-- `RR (IY+d),r`: `11111101 11001011 dddddddd 00011zzz` -/
  | rrAtIyR (d : Byte) (r : R8)
  /-- `SLA (IY+d)`: `11111101 11001011 dddddddd 00100110` -/
  | slaAtIy (d : Byte)
  /-- `SLA (IY+d),r`: `11111101 11001011 dddddddd 00100zzz` -/
  | slaAtIyR (d : Byte) (r : R8)
  /-- `SRA (IY+d)`: `11111101 11001011 dddddddd 00101110` -/
  | sraAtIy (d : Byte)
  /-- `SRA (IY+d),r`: `11111101 11001011 dddddddd 00101zzz` -/
  | sraAtIyR (d : Byte) (r : R8)
  /-- `SLL (IY+d)`: `11111101 11001011 dddddddd 00110110` -/
  | sllAtIy (d : Byte)
  /-- `SLL (IY+d),r`: `11111101 11001011 dddddddd 00110zzz` -/
  | sllAtIyR (d : Byte) (r : R8)
  /-- `SRL (IY+d)`: `11111101 11001011 dddddddd 00111110` -/
  | srlAtIy (d : Byte)
  /-- `SRL (IY+d),r`: `11111101 11001011 dddddddd 00111zzz` -/
  | srlAtIyR (d : Byte) (r : R8)
  /-- `BIT b,(IY+d)`: `11111101 11001011 dddddddd 01bbbzzz` -/
  | bitAtIy (b : BitVec 3) (d : Byte) (z : BitVec 3)
  /-- `RES b,(IY+d)`: `11111101 11001011 dddddddd 10bbb110` -/
  | resAtIy (b : BitVec 3) (d : Byte)
  /-- `RES b,(IY+d),r`: `11111101 11001011 dddddddd 10bbbzzz` -/
  | resAtIyR (b : BitVec 3) (d : Byte) (r : R8)
  /-- `SET b,(IY+d)`: `11111101 11001011 dddddddd 11bbb110` -/
  | setAtIy (b : BitVec 3) (d : Byte)
  /-- `SET b,(IY+d),r`: `11111101 11001011 dddddddd 11bbbzzz` -/
  | setAtIyR (b : BitVec 3) (d : Byte) (r : R8)
  /-- `NOP`: `00000000` -/
  | nop
  /-- `EX AF,AF'`: `00001000` -/
  | exAfAf
  /-- `LD (BC),A`: `00000010` -/
  | ldAtBcA
  /-- `LD (DE),A`: `00010010` -/
  | ldAtDeA
  /-- `LD A,(BC)`: `00001010` -/
  | ldAAtBc
  /-- `LD A,(DE)`: `00011010` -/
  | ldAAtDe
  /-- `INC (HL)`: `00110100` -/
  | incAtHl
  /-- `DEC (HL)`: `00110101` -/
  | decAtHl
  /-- `RLCA`: `00000111` -/
  | rlca
  /-- `RRCA`: `00001111` -/
  | rrca
  /-- `RLA`: `00010111` -/
  | rla
  /-- `RRA`: `00011111` -/
  | rra
  /-- `DAA`: `00100111` -/
  | daa
  /-- `CPL`: `00101111` -/
  | cpl
  /-- `SCF`: `00110111` -/
  | scf
  /-- `CCF`: `00111111` -/
  | ccf
  /-- `HALT`: `01110110` -/
  | halt
  /-- `ADD A,(HL)`: `10000110` -/
  | addAAtHl
  /-- `ADC A,(HL)`: `10001110` -/
  | adcAAtHl
  /-- `SUB (HL)`: `10010110` -/
  | subAtHl
  /-- `SBC A,(HL)`: `10011110` -/
  | sbcAAtHl
  /-- `AND (HL)`: `10100110` -/
  | andAtHl
  /-- `XOR (HL)`: `10101110` -/
  | xorAtHl
  /-- `OR (HL)`: `10110110` -/
  | orAtHl
  /-- `CP (HL)`: `10111110` -/
  | cpAtHl
  /-- `RET`: `11001001` -/
  | ret
  /-- `EXX`: `11011001` -/
  | exx
  /-- `JP (HL)`: `11101001` -/
  | jpHl
  /-- `LD SP,HL`: `11111001` -/
  | ldSpHl
  /-- `CB prefix`: `11001011` -/
  | cbPrefix
  /-- `EX (SP),HL`: `11100011` -/
  | exAtSpHl
  /-- `EX DE,HL`: `11101011` -/
  | exDeHl
  /-- `DI`: `11110011` -/
  | di
  /-- `EI`: `11111011` -/
  | ei
  /-- `DD prefix`: `11011101` -/
  | ddPrefix
  /-- `ED prefix`: `11101101` -/
  | edPrefix
  /-- `FD prefix`: `11111101` -/
  | fdPrefix
  /-- `RLC (HL)`: `11001011 00000110` -/
  | rlcAtHl
  /-- `RRC (HL)`: `11001011 00001110` -/
  | rrcAtHl
  /-- `RL (HL)`: `11001011 00010110` -/
  | rlAtHl
  /-- `RR (HL)`: `11001011 00011110` -/
  | rrAtHl
  /-- `SLA (HL)`: `11001011 00100110` -/
  | slaAtHl
  /-- `SRA (HL)`: `11001011 00101110` -/
  | sraAtHl
  /-- `SLL (HL)`: `11001011 00110110` -/
  | sllAtHl
  /-- `SRL (HL)`: `11001011 00111110` -/
  | srlAtHl
  /-- `IN (C)`: `11101101 01110000` -/
  | inFlagsC
  /-- `OUT (C),0`: `11101101 01110001` -/
  | outC0
  /-- `RETI`: `11101101 01001101` -/
  | reti
  /-- `LD I,A`: `11101101 01000111` -/
  | ldIA
  /-- `LD R,A`: `11101101 01001111` -/
  | ldRA
  /-- `LD A,I`: `11101101 01010111` -/
  | ldAI
  /-- `LD A,R`: `11101101 01011111` -/
  | ldAR
  /-- `RRD`: `11101101 01100111` -/
  | rrd
  /-- `RLD`: `11101101 01101111` -/
  | rld
  /-- `LDI`: `11101101 10100000` -/
  | ldi
  /-- `CPI`: `11101101 10100001` -/
  | cpi
  /-- `INI`: `11101101 10100010` -/
  | ini
  /-- `OUTI`: `11101101 10100011` -/
  | outi
  /-- `LDD`: `11101101 10101000` -/
  | ldd
  /-- `CPD`: `11101101 10101001` -/
  | cpd
  /-- `IND`: `11101101 10101010` -/
  | ind
  /-- `OUTD`: `11101101 10101011` -/
  | outd
  /-- `LDIR`: `11101101 10110000` -/
  | ldir
  /-- `CPIR`: `11101101 10110001` -/
  | cpir
  /-- `INIR`: `11101101 10110010` -/
  | inir
  /-- `OTIR`: `11101101 10110011` -/
  | otir
  /-- `LDDR`: `11101101 10111000` -/
  | lddr
  /-- `CPDR`: `11101101 10111001` -/
  | cpdr
  /-- `INDR`: `11101101 10111010` -/
  | indr
  /-- `OTDR`: `11101101 10111011` -/
  | otdr
  /-- `INC IX`: `11011101 00100011` -/
  | incIx
  /-- `DEC IX`: `11011101 00101011` -/
  | decIx
  /-- `POP IX`: `11011101 11100001` -/
  | popIx
  /-- `EX (SP),IX`: `11011101 11100011` -/
  | exAtSpIx
  /-- `PUSH IX`: `11011101 11100101` -/
  | pushIx
  /-- `JP (IX)`: `11011101 11101001` -/
  | jpIx
  /-- `LD SP,IX`: `11011101 11111001` -/
  | ldSpIx
  /-- `DD CB prefix (two-byte prefix DD CB)`: `11011101 11001011` -/
  | ddCbPrefix
  /-- `INC IY`: `11111101 00100011` -/
  | incIy
  /-- `DEC IY`: `11111101 00101011` -/
  | decIy
  /-- `POP IY`: `11111101 11100001` -/
  | popIy
  /-- `EX (SP),IY`: `11111101 11100011` -/
  | exAtSpIy
  /-- `PUSH IY`: `11111101 11100101` -/
  | pushIy
  /-- `JP (IY)`: `11111101 11101001` -/
  | jpIy
  /-- `LD SP,IY`: `11111101 11111001` -/
  | ldSpIy
  /-- `FD CB prefix (two-byte prefix FD CB)`: `11111101 11001011` -/
  | fdCbPrefix
  deriving DecidableEq, Repr

end Sys2Proof
end

