-- ==== Sys2Proof/Machine/Dispatch.lean ====
section
/-! DEFINITION. The meaning of every instruction: one arm per constructor. -/

namespace Sys2Proof.Machine

/-- The instruction's effect on a state whose opcode and operand bytes are fetched (Machine/Fetch.lean). -/
def exec (i : Instr) (s : State) : Host.Outcome State Fault Refusal :=
  match i with
  | .nop => Sys2Proof.Machine.execNop s
  | .exAfAf => Sys2Proof.Machine.execExAfAf s
  | .djnz e => Sys2Proof.Machine.execDjnz e s
  | .jr e => Sys2Proof.Machine.execJr e s
  | .jrCc cc e => Sys2Proof.Machine.execJrCc cc e s
  | .ldRpNn rp nn => Sys2Proof.Machine.execLdRpNn rp nn s
  | .addHlRp rp => Sys2Proof.Machine.execAddHlRp rp s
  | .ldAtBcA => Sys2Proof.Machine.execLdAtBcA s
  | .ldAtDeA => Sys2Proof.Machine.execLdAtDeA s
  | .ldAtNnHl nn => Sys2Proof.Machine.execLdAtNnHl nn s
  | .ldAtNnA nn => Sys2Proof.Machine.execLdAtNnA nn s
  | .ldAAtBc => Sys2Proof.Machine.execLdAAtBc s
  | .ldAAtDe => Sys2Proof.Machine.execLdAAtDe s
  | .ldHlAtNn nn => Sys2Proof.Machine.execLdHlAtNn nn s
  | .ldAAtNn nn => Sys2Proof.Machine.execLdAAtNn nn s
  | .incRp rp => Sys2Proof.Machine.execIncRp rp s
  | .decRp rp => Sys2Proof.Machine.execDecRp rp s
  | .incR r => Sys2Proof.Machine.execIncR r s
  | .incAtHl => Sys2Proof.Machine.execIncAtHl s
  | .decR r => Sys2Proof.Machine.execDecR r s
  | .decAtHl => Sys2Proof.Machine.execDecAtHl s
  | .ldRN r n => Sys2Proof.Machine.execLdRN r n s
  | .ldAtHlN n => Sys2Proof.Machine.execLdAtHlN n s
  | .rlca => Sys2Proof.Machine.execRlca s
  | .rrca => Sys2Proof.Machine.execRrca s
  | .rla => Sys2Proof.Machine.execRla s
  | .rra => Sys2Proof.Machine.execRra s
  | .daa => Sys2Proof.Machine.execDaa s
  | .cpl => Sys2Proof.Machine.execCpl s
  | .scf => Sys2Proof.Machine.execScf s
  | .ccf => Sys2Proof.Machine.execCcf s
  | .ldRR r r' => Sys2Proof.Machine.execLdRR r r' s
  | .ldRAtHl r => Sys2Proof.Machine.execLdRAtHl r s
  | .ldAtHlR r => Sys2Proof.Machine.execLdAtHlR r s
  | .halt => Sys2Proof.Machine.execHalt s
  | .addAR r => Sys2Proof.Machine.execAddAR r s
  | .addAAtHl => Sys2Proof.Machine.execAddAAtHl s
  | .addAN n => Sys2Proof.Machine.execAddAN n s
  | .adcAR r => Sys2Proof.Machine.execAdcAR r s
  | .adcAAtHl => Sys2Proof.Machine.execAdcAAtHl s
  | .adcAN n => Sys2Proof.Machine.execAdcAN n s
  | .subR r => Sys2Proof.Machine.execSubR r s
  | .subAtHl => Sys2Proof.Machine.execSubAtHl s
  | .subN n => Sys2Proof.Machine.execSubN n s
  | .sbcAR r => Sys2Proof.Machine.execSbcAR r s
  | .sbcAAtHl => Sys2Proof.Machine.execSbcAAtHl s
  | .sbcAN n => Sys2Proof.Machine.execSbcAN n s
  | .andR r => Sys2Proof.Machine.execAndR r s
  | .andAtHl => Sys2Proof.Machine.execAndAtHl s
  | .andN n => Sys2Proof.Machine.execAndN n s
  | .xorR r => Sys2Proof.Machine.execXorR r s
  | .xorAtHl => Sys2Proof.Machine.execXorAtHl s
  | .xorN n => Sys2Proof.Machine.execXorN n s
  | .orR r => Sys2Proof.Machine.execOrR r s
  | .orAtHl => Sys2Proof.Machine.execOrAtHl s
  | .orN n => Sys2Proof.Machine.execOrN n s
  | .cpR r => Sys2Proof.Machine.execCpR r s
  | .cpAtHl => Sys2Proof.Machine.execCpAtHl s
  | .cpN n => Sys2Proof.Machine.execCpN n s
  | .retCc cc => Sys2Proof.Machine.execRetCc cc s
  | .popRp2 rp2 => Sys2Proof.Machine.execPopRp2 rp2 s
  | .ret => Sys2Proof.Machine.execRet s
  | .exx => Sys2Proof.Machine.execExx s
  | .jpHl => Sys2Proof.Machine.execJpHl s
  | .ldSpHl => Sys2Proof.Machine.execLdSpHl s
  | .jpCcNn cc nn => Sys2Proof.Machine.execJpCcNn cc nn s
  | .jpNn nn => Sys2Proof.Machine.execJpNn nn s
  | .cbPrefix => Sys2Proof.Machine.execCbPrefix s
  | .outAtNA n => Sys2Proof.Machine.execOutAtNA n s
  | .inAAtN n => Sys2Proof.Machine.execInAAtN n s
  | .exAtSpHl => Sys2Proof.Machine.execExAtSpHl s
  | .exDeHl => Sys2Proof.Machine.execExDeHl s
  | .di => Sys2Proof.Machine.execDi s
  | .ei => Sys2Proof.Machine.execEi s
  | .callCcNn cc nn => Sys2Proof.Machine.execCallCcNn cc nn s
  | .pushRp2 rp2 => Sys2Proof.Machine.execPushRp2 rp2 s
  | .callNn nn => Sys2Proof.Machine.execCallNn nn s
  | .ddPrefix => Sys2Proof.Machine.execDdPrefix s
  | .edPrefix => Sys2Proof.Machine.execEdPrefix s
  | .fdPrefix => Sys2Proof.Machine.execFdPrefix s
  | .rst y => Sys2Proof.Machine.execRst y s
  | .rlcR r => Sys2Proof.Machine.execRlcR r s
  | .rlcAtHl => Sys2Proof.Machine.execRlcAtHl s
  | .rrcR r => Sys2Proof.Machine.execRrcR r s
  | .rrcAtHl => Sys2Proof.Machine.execRrcAtHl s
  | .rlR r => Sys2Proof.Machine.execRlR r s
  | .rlAtHl => Sys2Proof.Machine.execRlAtHl s
  | .rrR r => Sys2Proof.Machine.execRrR r s
  | .rrAtHl => Sys2Proof.Machine.execRrAtHl s
  | .slaR r => Sys2Proof.Machine.execSlaR r s
  | .slaAtHl => Sys2Proof.Machine.execSlaAtHl s
  | .sraR r => Sys2Proof.Machine.execSraR r s
  | .sraAtHl => Sys2Proof.Machine.execSraAtHl s
  | .sllR r => Sys2Proof.Machine.execSllR r s
  | .sllAtHl => Sys2Proof.Machine.execSllAtHl s
  | .srlR r => Sys2Proof.Machine.execSrlR r s
  | .srlAtHl => Sys2Proof.Machine.execSrlAtHl s
  | .bitR b r => Sys2Proof.Machine.execBitR b r s
  | .bitAtHl b => Sys2Proof.Machine.execBitAtHl b s
  | .resR b r => Sys2Proof.Machine.execResR b r s
  | .resAtHl b => Sys2Proof.Machine.execResAtHl b s
  | .setR b r => Sys2Proof.Machine.execSetR b r s
  | .setAtHl b => Sys2Proof.Machine.execSetAtHl b s
  | .inRC r => Sys2Proof.Machine.execInRC r s
  | .inFlagsC => Sys2Proof.Machine.execInFlagsC s
  | .outCR r => Sys2Proof.Machine.execOutCR r s
  | .outC0 => Sys2Proof.Machine.execOutC0 s
  | .sbcHlRp rp => Sys2Proof.Machine.execSbcHlRp rp s
  | .adcHlRp rp => Sys2Proof.Machine.execAdcHlRp rp s
  | .ldAtNnRp rp nn => Sys2Proof.Machine.execLdAtNnRp rp nn s
  | .ldRpAtNn rp nn => Sys2Proof.Machine.execLdRpAtNn rp nn s
  | .neg y => Sys2Proof.Machine.execNeg y s
  | .retn y => Sys2Proof.Machine.execRetn y s
  | .reti => Sys2Proof.Machine.execReti s
  | .im y => Sys2Proof.Machine.execIm y s
  | .ldIA => Sys2Proof.Machine.execLdIA s
  | .ldRA => Sys2Proof.Machine.execLdRA s
  | .ldAI => Sys2Proof.Machine.execLdAI s
  | .ldAR => Sys2Proof.Machine.execLdAR s
  | .rrd => Sys2Proof.Machine.execRrd s
  | .rld => Sys2Proof.Machine.execRld s
  | .nopEd q => Sys2Proof.Machine.execNopEd q s
  | .ldi => Sys2Proof.Machine.execLdi s
  | .cpi => Sys2Proof.Machine.execCpi s
  | .ini => Sys2Proof.Machine.execIni s
  | .outi => Sys2Proof.Machine.execOuti s
  | .ldd => Sys2Proof.Machine.execLdd s
  | .cpd => Sys2Proof.Machine.execCpd s
  | .ind => Sys2Proof.Machine.execInd s
  | .outd => Sys2Proof.Machine.execOutd s
  | .ldir => Sys2Proof.Machine.execLdir s
  | .cpir => Sys2Proof.Machine.execCpir s
  | .inir => Sys2Proof.Machine.execInir s
  | .otir => Sys2Proof.Machine.execOtir s
  | .lddr => Sys2Proof.Machine.execLddr s
  | .cpdr => Sys2Proof.Machine.execCpdr s
  | .indr => Sys2Proof.Machine.execIndr s
  | .otdr => Sys2Proof.Machine.execOtdr s
  | .noni op => Sys2Proof.Machine.execNoni op s
  | .addIxRp rp => Sys2Proof.Machine.execAddIxRp rp s
  | .ldIxNn nn => Sys2Proof.Machine.execLdIxNn nn s
  | .ldAtNnIx nn => Sys2Proof.Machine.execLdAtNnIx nn s
  | .ldIxAtNn nn => Sys2Proof.Machine.execLdIxAtNn nn s
  | .incIx => Sys2Proof.Machine.execIncIx s
  | .decIx => Sys2Proof.Machine.execDecIx s
  | .incIxHalf half => Sys2Proof.Machine.execIncIxHalf half s
  | .decIxHalf half => Sys2Proof.Machine.execDecIxHalf half s
  | .ldIxHalfN half n => Sys2Proof.Machine.execLdIxHalfN half n s
  | .incAtIx d => Sys2Proof.Machine.execIncAtIx d s
  | .decAtIx d => Sys2Proof.Machine.execDecAtIx d s
  | .ldAtIxN d n => Sys2Proof.Machine.execLdAtIxN d n s
  | .ldRRIxHalves r r' => Sys2Proof.Machine.execLdRRIxHalves r r' s
  | .ldRAtIx r d => Sys2Proof.Machine.execLdRAtIx r d s
  | .ldAtIxR d r => Sys2Proof.Machine.execLdAtIxR d r s
  | .addAIxHalf half => Sys2Proof.Machine.execAddAIxHalf half s
  | .addAAtIx d => Sys2Proof.Machine.execAddAAtIx d s
  | .adcAIxHalf half => Sys2Proof.Machine.execAdcAIxHalf half s
  | .adcAAtIx d => Sys2Proof.Machine.execAdcAAtIx d s
  | .subIxHalf half => Sys2Proof.Machine.execSubIxHalf half s
  | .subAtIx d => Sys2Proof.Machine.execSubAtIx d s
  | .sbcAIxHalf half => Sys2Proof.Machine.execSbcAIxHalf half s
  | .sbcAAtIx d => Sys2Proof.Machine.execSbcAAtIx d s
  | .andIxHalf half => Sys2Proof.Machine.execAndIxHalf half s
  | .andAtIx d => Sys2Proof.Machine.execAndAtIx d s
  | .xorIxHalf half => Sys2Proof.Machine.execXorIxHalf half s
  | .xorAtIx d => Sys2Proof.Machine.execXorAtIx d s
  | .orIxHalf half => Sys2Proof.Machine.execOrIxHalf half s
  | .orAtIx d => Sys2Proof.Machine.execOrAtIx d s
  | .cpIxHalf half => Sys2Proof.Machine.execCpIxHalf half s
  | .cpAtIx d => Sys2Proof.Machine.execCpAtIx d s
  | .popIx => Sys2Proof.Machine.execPopIx s
  | .exAtSpIx => Sys2Proof.Machine.execExAtSpIx s
  | .pushIx => Sys2Proof.Machine.execPushIx s
  | .jpIx => Sys2Proof.Machine.execJpIx s
  | .ldSpIx => Sys2Proof.Machine.execLdSpIx s
  | .ddCbPrefix => Sys2Proof.Machine.execDdCbPrefix s
  | .ddNoEffect op => Sys2Proof.Machine.execDdNoEffect op s
  | .rlcAtIx d => Sys2Proof.Machine.execRlcAtIx d s
  | .rlcAtIxR d r => Sys2Proof.Machine.execRlcAtIxR d r s
  | .rrcAtIx d => Sys2Proof.Machine.execRrcAtIx d s
  | .rrcAtIxR d r => Sys2Proof.Machine.execRrcAtIxR d r s
  | .rlAtIx d => Sys2Proof.Machine.execRlAtIx d s
  | .rlAtIxR d r => Sys2Proof.Machine.execRlAtIxR d r s
  | .rrAtIx d => Sys2Proof.Machine.execRrAtIx d s
  | .rrAtIxR d r => Sys2Proof.Machine.execRrAtIxR d r s
  | .slaAtIx d => Sys2Proof.Machine.execSlaAtIx d s
  | .slaAtIxR d r => Sys2Proof.Machine.execSlaAtIxR d r s
  | .sraAtIx d => Sys2Proof.Machine.execSraAtIx d s
  | .sraAtIxR d r => Sys2Proof.Machine.execSraAtIxR d r s
  | .sllAtIx d => Sys2Proof.Machine.execSllAtIx d s
  | .sllAtIxR d r => Sys2Proof.Machine.execSllAtIxR d r s
  | .srlAtIx d => Sys2Proof.Machine.execSrlAtIx d s
  | .srlAtIxR d r => Sys2Proof.Machine.execSrlAtIxR d r s
  | .bitAtIx b d z => Sys2Proof.Machine.execBitAtIx b d z s
  | .resAtIx b d => Sys2Proof.Machine.execResAtIx b d s
  | .resAtIxR b d r => Sys2Proof.Machine.execResAtIxR b d r s
  | .setAtIx b d => Sys2Proof.Machine.execSetAtIx b d s
  | .setAtIxR b d r => Sys2Proof.Machine.execSetAtIxR b d r s
  | .addIyRp rp => Sys2Proof.Machine.execAddIyRp rp s
  | .ldIyNn nn => Sys2Proof.Machine.execLdIyNn nn s
  | .ldAtNnIy nn => Sys2Proof.Machine.execLdAtNnIy nn s
  | .ldIyAtNn nn => Sys2Proof.Machine.execLdIyAtNn nn s
  | .incIy => Sys2Proof.Machine.execIncIy s
  | .decIy => Sys2Proof.Machine.execDecIy s
  | .incIyHalf half => Sys2Proof.Machine.execIncIyHalf half s
  | .decIyHalf half => Sys2Proof.Machine.execDecIyHalf half s
  | .ldIyHalfN half n => Sys2Proof.Machine.execLdIyHalfN half n s
  | .incAtIy d => Sys2Proof.Machine.execIncAtIy d s
  | .decAtIy d => Sys2Proof.Machine.execDecAtIy d s
  | .ldAtIyN d n => Sys2Proof.Machine.execLdAtIyN d n s
  | .ldRRIyHalves r r' => Sys2Proof.Machine.execLdRRIyHalves r r' s
  | .ldRAtIy r d => Sys2Proof.Machine.execLdRAtIy r d s
  | .ldAtIyR d r => Sys2Proof.Machine.execLdAtIyR d r s
  | .addAIyHalf half => Sys2Proof.Machine.execAddAIyHalf half s
  | .addAAtIy d => Sys2Proof.Machine.execAddAAtIy d s
  | .adcAIyHalf half => Sys2Proof.Machine.execAdcAIyHalf half s
  | .adcAAtIy d => Sys2Proof.Machine.execAdcAAtIy d s
  | .subIyHalf half => Sys2Proof.Machine.execSubIyHalf half s
  | .subAtIy d => Sys2Proof.Machine.execSubAtIy d s
  | .sbcAIyHalf half => Sys2Proof.Machine.execSbcAIyHalf half s
  | .sbcAAtIy d => Sys2Proof.Machine.execSbcAAtIy d s
  | .andIyHalf half => Sys2Proof.Machine.execAndIyHalf half s
  | .andAtIy d => Sys2Proof.Machine.execAndAtIy d s
  | .xorIyHalf half => Sys2Proof.Machine.execXorIyHalf half s
  | .xorAtIy d => Sys2Proof.Machine.execXorAtIy d s
  | .orIyHalf half => Sys2Proof.Machine.execOrIyHalf half s
  | .orAtIy d => Sys2Proof.Machine.execOrAtIy d s
  | .cpIyHalf half => Sys2Proof.Machine.execCpIyHalf half s
  | .cpAtIy d => Sys2Proof.Machine.execCpAtIy d s
  | .popIy => Sys2Proof.Machine.execPopIy s
  | .exAtSpIy => Sys2Proof.Machine.execExAtSpIy s
  | .pushIy => Sys2Proof.Machine.execPushIy s
  | .jpIy => Sys2Proof.Machine.execJpIy s
  | .ldSpIy => Sys2Proof.Machine.execLdSpIy s
  | .fdCbPrefix => Sys2Proof.Machine.execFdCbPrefix s
  | .fdNoEffect op => Sys2Proof.Machine.execFdNoEffect op s
  | .rlcAtIy d => Sys2Proof.Machine.execRlcAtIy d s
  | .rlcAtIyR d r => Sys2Proof.Machine.execRlcAtIyR d r s
  | .rrcAtIy d => Sys2Proof.Machine.execRrcAtIy d s
  | .rrcAtIyR d r => Sys2Proof.Machine.execRrcAtIyR d r s
  | .rlAtIy d => Sys2Proof.Machine.execRlAtIy d s
  | .rlAtIyR d r => Sys2Proof.Machine.execRlAtIyR d r s
  | .rrAtIy d => Sys2Proof.Machine.execRrAtIy d s
  | .rrAtIyR d r => Sys2Proof.Machine.execRrAtIyR d r s
  | .slaAtIy d => Sys2Proof.Machine.execSlaAtIy d s
  | .slaAtIyR d r => Sys2Proof.Machine.execSlaAtIyR d r s
  | .sraAtIy d => Sys2Proof.Machine.execSraAtIy d s
  | .sraAtIyR d r => Sys2Proof.Machine.execSraAtIyR d r s
  | .sllAtIy d => Sys2Proof.Machine.execSllAtIy d s
  | .sllAtIyR d r => Sys2Proof.Machine.execSllAtIyR d r s
  | .srlAtIy d => Sys2Proof.Machine.execSrlAtIy d s
  | .srlAtIyR d r => Sys2Proof.Machine.execSrlAtIyR d r s
  | .bitAtIy b d z => Sys2Proof.Machine.execBitAtIy b d z s
  | .resAtIy b d => Sys2Proof.Machine.execResAtIy b d s
  | .resAtIyR b d r => Sys2Proof.Machine.execResAtIyR b d r s
  | .setAtIy b d => Sys2Proof.Machine.execSetAtIy b d s
  | .setAtIyR b d r => Sys2Proof.Machine.execSetAtIyR b d r s

end Sys2Proof.Machine
end

