-- ==== Sys2Proof/Decode.lean ====
section
/-! DEFINITION. The decoder and the encoder (spec/30_encoding.md R300 to R325). A decode unit is one FETCH-governed
opcode byte with its operands, read under the prefix latch (R323); a prefix byte is a unit of its own
(spec/49_cpu_control.md R785, R786; log 10). Decoding a unit is total: no encoding traps (R325). -/

namespace Sys2Proof

/-! ### The decode tables (R305) -/

/-- The index of a register in `r[i]`. -/
def R8.code (r : R8) : BitVec 3 :=
  match r with
  | .b => 0
  | .c => 1
  | .d => 2
  | .e => 3
  | .h => 4
  | .l => 5
  | .a => 7

/-- `r[i]` for i ≠ 6; entry 6 is the memory operand, which every caller takes out first. -/
def regAt (i : BitVec 3) : R8 :=
  match i.toNat with
  | 0 => .b
  | 1 => .c
  | 2 => .d
  | 3 => .e
  | 4 => .h
  | 5 => .l
  | _ => .a

/-- The index of a pair in `rp[i]`. -/
def RP.code (rp : RP) : BitVec 2 :=
  match rp with
  | .bc => 0
  | .de => 1
  | .hl => 2
  | .sp => 3

/-- `rp[i]`. -/
def pairAt (i : BitVec 2) : RP :=
  match i.toNat with
  | 0 => .bc
  | 1 => .de
  | 2 => .hl
  | _ => .sp

/-- The index of a pair in `rp2[i]`. -/
def RP2.code (rp2 : RP2) : BitVec 2 :=
  match rp2 with
  | .bc => 0
  | .de => 1
  | .hl => 2
  | .af => 3

/-- `rp2[i]`. -/
def stackPairAt (i : BitVec 2) : RP2 :=
  match i.toNat with
  | 0 => .bc
  | 1 => .de
  | 2 => .hl
  | _ => .af

/-- The index of a condition in `cc[i]`. -/
def CC.code (cc : CC) : BitVec 3 :=
  match cc with
  | .nz => 0
  | .z => 1
  | .nc => 2
  | .c => 3
  | .po => 4
  | .pe => 5
  | .p => 6
  | .m => 7

/-- `cc[i]`. -/
def conditionAt (i : BitVec 3) : CC :=
  match i.toNat with
  | 0 => .nz
  | 1 => .z
  | 2 => .nc
  | 3 => .c
  | 4 => .po
  | 5 => .pe
  | 6 => .p
  | _ => .m

/-- The opcode field y of `JR cc,e`, 4 to 7 (R306). -/
def JCC.code (cc : JCC) : BitVec 3 :=
  match cc with
  | .nz => 4
  | .z => 5
  | .nc => 6
  | .c => 7

/-- `cc[y-4]` (R306). -/
def jumpConditionAt (y : BitVec 3) : JCC :=
  match y.toNat with
  | 4 => .nz
  | 5 => .z
  | 6 => .nc
  | _ => .c

/-- The index of `XH` or `XL` in `r[i]` under a prefix (R320). -/
def Half.code (half : Half) : BitVec 3 :=
  match half with
  | .hi => 4
  | .lo => 5

/-- `XH` for index 4, `XL` for index 5 (R320). -/
def halfAt (i : BitVec 3) : Half := if i = 4 then .hi else .lo

/-- The constructor for the selected index register. -/
def pick (xy : XY) (ofIx ofIy : Instr) : Instr :=
  match xy with
  | .ix => ofIx
  | .iy => ofIy

/-- `alu[y] r` (R308). -/
def aluRegister (y : BitVec 3) (r : R8) : Instr :=
  match y.toNat with
  | 0 => .addAR r
  | 1 => .adcAR r
  | 2 => .subR r
  | 3 => .sbcAR r
  | 4 => .andR r
  | 5 => .xorR r
  | 6 => .orR r
  | _ => .cpR r

/-- `alu[y] (HL)` (R308). -/
def aluMemory (y : BitVec 3) : Instr :=
  match y.toNat with
  | 0 => .addAAtHl
  | 1 => .adcAAtHl
  | 2 => .subAtHl
  | 3 => .sbcAAtHl
  | 4 => .andAtHl
  | 5 => .xorAtHl
  | 6 => .orAtHl
  | _ => .cpAtHl

/-- `alu[y] n` (R309). -/
def aluImmediate (y : BitVec 3) (n : Byte) : Instr :=
  match y.toNat with
  | 0 => .addAN n
  | 1 => .adcAN n
  | 2 => .subN n
  | 3 => .sbcAN n
  | 4 => .andN n
  | 5 => .xorN n
  | 6 => .orN n
  | _ => .cpN n

/-- `alu[y] XH/XL` (R320). -/
def aluHalf (xy : XY) (y : BitVec 3) (half : Half) : Instr :=
  match y.toNat with
  | 0 => pick xy (.addAIxHalf half) (.addAIyHalf half)
  | 1 => pick xy (.adcAIxHalf half) (.adcAIyHalf half)
  | 2 => pick xy (.subIxHalf half) (.subIyHalf half)
  | 3 => pick xy (.sbcAIxHalf half) (.sbcAIyHalf half)
  | 4 => pick xy (.andIxHalf half) (.andIyHalf half)
  | 5 => pick xy (.xorIxHalf half) (.xorIyHalf half)
  | 6 => pick xy (.orIxHalf half) (.orIyHalf half)
  | _ => pick xy (.cpIxHalf half) (.cpIyHalf half)

/-- `alu[y] (X+d)` (R320). -/
def aluIndexed (xy : XY) (y : BitVec 3) (d : Byte) : Instr :=
  match y.toNat with
  | 0 => pick xy (.addAAtIx d) (.addAAtIy d)
  | 1 => pick xy (.adcAAtIx d) (.adcAAtIy d)
  | 2 => pick xy (.subAtIx d) (.subAtIy d)
  | 3 => pick xy (.sbcAAtIx d) (.sbcAAtIy d)
  | 4 => pick xy (.andAtIx d) (.andAtIy d)
  | 5 => pick xy (.xorAtIx d) (.xorAtIy d)
  | 6 => pick xy (.orAtIx d) (.orAtIy d)
  | _ => pick xy (.cpAtIx d) (.cpAtIy d)

/-- `rot[y] r` (R310). -/
def rotRegister (y : BitVec 3) (r : R8) : Instr :=
  match y.toNat with
  | 0 => .rlcR r
  | 1 => .rrcR r
  | 2 => .rlR r
  | 3 => .rrR r
  | 4 => .slaR r
  | 5 => .sraR r
  | 6 => .sllR r
  | _ => .srlR r

/-- `rot[y] (HL)` (R310). -/
def rotMemory (y : BitVec 3) : Instr :=
  match y.toNat with
  | 0 => .rlcAtHl
  | 1 => .rrcAtHl
  | 2 => .rlAtHl
  | 3 => .rrAtHl
  | 4 => .slaAtHl
  | 5 => .sraAtHl
  | 6 => .sllAtHl
  | _ => .srlAtHl

/-- `rot[y] (X+d)` (R322). -/
def rotIndexed (xy : XY) (y : BitVec 3) (d : Byte) : Instr :=
  match y.toNat with
  | 0 => pick xy (.rlcAtIx d) (.rlcAtIy d)
  | 1 => pick xy (.rrcAtIx d) (.rrcAtIy d)
  | 2 => pick xy (.rlAtIx d) (.rlAtIy d)
  | 3 => pick xy (.rrAtIx d) (.rrAtIy d)
  | 4 => pick xy (.slaAtIx d) (.slaAtIy d)
  | 5 => pick xy (.sraAtIx d) (.sraAtIy d)
  | 6 => pick xy (.sllAtIx d) (.sllAtIy d)
  | _ => pick xy (.srlAtIx d) (.srlAtIy d)

/-- `rot[y] (X+d)`, also copied into a register (R322). -/
def rotIndexedCopy (xy : XY) (y : BitVec 3) (d : Byte) (r : R8) : Instr :=
  match y.toNat with
  | 0 => pick xy (.rlcAtIxR d r) (.rlcAtIyR d r)
  | 1 => pick xy (.rrcAtIxR d r) (.rrcAtIyR d r)
  | 2 => pick xy (.rlAtIxR d r) (.rlAtIyR d r)
  | 3 => pick xy (.rrAtIxR d r) (.rrAtIyR d r)
  | 4 => pick xy (.slaAtIxR d r) (.slaAtIyR d r)
  | 5 => pick xy (.sraAtIxR d r) (.sraAtIyR d r)
  | 6 => pick xy (.sllAtIxR d r) (.sllAtIyR d r)
  | _ => pick xy (.srlAtIxR d r) (.srlAtIyR d r)

/-- The z = 7 row (R306). -/
def accumulatorRow (y : BitVec 3) : Instr :=
  match y.toNat with
  | 0 => .rlca
  | 1 => .rrca
  | 2 => .rla
  | 3 => .rra
  | 4 => .daa
  | 5 => .cpl
  | 6 => .scf
  | _ => .ccf

/-! ### The unprefixed table -/

/-- x = 0 (R306). -/
def decodeX0 (op b1 b2 : Byte) : Instr :=
  let y := opY op
  let p := opP op
  let nn := mk16 b2 b1
  match (opZ op).toNat with
  | 0 =>
    match y.toNat with
    | 0 => .nop
    | 1 => .exAfAf
    | 2 => .djnz b1
    | 3 => .jr b1
    | _ => .jrCc (jumpConditionAt y) b1
  | 1 => if opQ op = 0 then .ldRpNn (pairAt p) nn else .addHlRp (pairAt p)
  | 2 =>
    match y.toNat with
    | 0 => .ldAtBcA
    | 1 => .ldAAtBc
    | 2 => .ldAtDeA
    | 3 => .ldAAtDe
    | 4 => .ldAtNnHl nn
    | 5 => .ldHlAtNn nn
    | 6 => .ldAtNnA nn
    | _ => .ldAAtNn nn
  | 3 => if opQ op = 0 then .incRp (pairAt p) else .decRp (pairAt p)
  | 4 => if y = 6 then .incAtHl else .incR (regAt y)
  | 5 => if y = 6 then .decAtHl else .decR (regAt y)
  | 6 => if y = 6 then .ldAtHlN b1 else .ldRN (regAt y) b1
  | _ => accumulatorRow y

/-- x = 1 (R307). -/
def decodeX1 (op : Byte) : Instr :=
  if opZ op = 6 then
    if opY op = 6 then .halt else .ldRAtHl (regAt (opY op))
  else if opY op = 6 then .ldAtHlR (regAt (opZ op))
  else .ldRR (regAt (opY op)) (regAt (opZ op))

/-- x = 3 (R309). After 0xDD and 0xFD the following byte `b1` says which of the two prefix rows it is. -/
def decodeX3 (op b1 b2 : Byte) : Instr :=
  let y := opY op
  let p := opP op
  let nn := mk16 b2 b1
  match (opZ op).toNat with
  | 0 => .retCc (conditionAt y)
  | 1 =>
    if opQ op = 0 then .popRp2 (stackPairAt p)
    else
      match p.toNat with
      | 0 => .ret
      | 1 => .exx
      | 2 => .jpHl
      | _ => .ldSpHl
  | 2 => .jpCcNn (conditionAt y) nn
  | 3 =>
    match y.toNat with
    | 0 => .jpNn nn
    | 1 => .cbPrefix
    | 2 => .outAtNA b1
    | 3 => .inAAtN b1
    | 4 => .exAtSpHl
    | 5 => .exDeHl
    | 6 => .di
    | _ => .ei
  | 4 => .callCcNn (conditionAt y) nn
  | 5 =>
    if opQ op = 0 then .pushRp2 (stackPairAt p)
    else
      match p.toNat with
      | 0 => .callNn nn
      | 1 => if xyIneffective b1 then .ddNoEffect b1 else .ddPrefix
      | 2 => .edPrefix
      | _ => if xyIneffective b1 then .fdNoEffect b1 else .fdPrefix
  | 6 => aluImmediate y b1
  | _ => .rst y

/-- The unprefixed table (R306 to R309). -/
def decodeBase (op b1 b2 : Byte) : Instr :=
  match (opX op).toNat with
  | 0 => decodeX0 op b1 b2
  | 1 => decodeX1 op
  | 2 => if opZ op = 6 then aluMemory (opY op) else aluRegister (opY op) (regAt (opZ op))
  | _ => decodeX3 op b1 b2

/-! ### The CB, ED, DD/FD and DDCB/FDCB tables -/

/-- The CB table (R310). -/
def decodeCb (op : Byte) : Instr :=
  let y := opY op
  let z := opZ op
  match (opX op).toNat with
  | 0 => if z = 6 then rotMemory y else rotRegister y (regAt z)
  | 1 => if z = 6 then .bitAtHl y else .bitR y (regAt z)
  | 2 => if z = 6 then .resAtHl y else .resR y (regAt z)
  | _ => if z = 6 then .setAtHl y else .setR y (regAt z)

/-- x = 1 of the ED table (R311). -/
def decodeEd1 (op b1 b2 : Byte) : Instr :=
  let y := opY op
  let p := opP op
  let nn := mk16 b2 b1
  match (opZ op).toNat with
  | 0 => if y = 6 then .inFlagsC else .inRC (regAt y)
  | 1 => if y = 6 then .outC0 else .outCR (regAt y)
  | 2 => if opQ op = 0 then .sbcHlRp (pairAt p) else .adcHlRp (pairAt p)
  | 3 => if opQ op = 0 then .ldAtNnRp (pairAt p) nn else .ldRpAtNn (pairAt p) nn
  | 4 => .neg y
  | 5 => if y = 1 then .reti else .retn y
  | 6 => .im y
  | _ =>
    match y.toNat with
    | 0 => .ldIA
    | 1 => .ldRA
    | 2 => .ldAI
    | 3 => .ldAR
    | 4 => .rrd
    | 5 => .rld
    | _ => .nopEd (opQ op)

/-- `bli[y][z]` (R305). -/
def decodeBlock (y z : BitVec 3) : Instr :=
  match y.toNat, z.toNat with
  | 4, 0 => .ldi
  | 4, 1 => .cpi
  | 4, 2 => .ini
  | 4, _ => .outi
  | 5, 0 => .ldd
  | 5, 1 => .cpd
  | 5, 2 => .ind
  | 5, _ => .outd
  | 6, 0 => .ldir
  | 6, 1 => .cpir
  | 6, 2 => .inir
  | 6, _ => .otir
  | _, 0 => .lddr
  | _, 1 => .cpdr
  | _, 2 => .indr
  | _, _ => .otdr

/-- The ED table (R311, R312). -/
def decodeEd (op b1 b2 : Byte) : Instr :=
  if edInvalid op then .noni op
  else if opX op = 1 then decodeEd1 op b1 b2
  else decodeBlock (opY op) (opZ op)

/-- The DD/FD table on an affected opcode or 0xCB (R320, R322). `b1` and `b2` are the bytes after it. -/
def decodeXy (xy : XY) (op b1 b2 : Byte) : Instr :=
  let y := opY op
  let z := opZ op
  let p := opP op
  let nn := mk16 b2 b1
  match (opX op).toNat with
  | 0 =>
    match z.toNat with
    | 1 => if opQ op = 0 then pick xy (.ldIxNn nn) (.ldIyNn nn) else pick xy (.addIxRp (pairAt p)) (.addIyRp (pairAt p))
    | 2 => if opQ op = 0 then pick xy (.ldAtNnIx nn) (.ldAtNnIy nn) else pick xy (.ldIxAtNn nn) (.ldIyAtNn nn)
    | 3 => if opQ op = 0 then pick xy .incIx .incIy else pick xy .decIx .decIy
    | 4 => if y = 6 then pick xy (.incAtIx b1) (.incAtIy b1) else pick xy (.incIxHalf (halfAt y)) (.incIyHalf (halfAt y))
    | 5 => if y = 6 then pick xy (.decAtIx b1) (.decAtIy b1) else pick xy (.decIxHalf (halfAt y)) (.decIyHalf (halfAt y))
    | _ =>
      if y = 6 then pick xy (.ldAtIxN b1 b2) (.ldAtIyN b1 b2)
      else pick xy (.ldIxHalfN (halfAt y) b1) (.ldIyHalfN (halfAt y) b1)
  | 1 =>
    if z = 6 then pick xy (.ldRAtIx (regAt y) b1) (.ldRAtIy (regAt y) b1)
    else if y = 6 then pick xy (.ldAtIxR b1 (regAt z)) (.ldAtIyR b1 (regAt z))
    else pick xy (.ldRRIxHalves (regAt y) (regAt z)) (.ldRRIyHalves (regAt y) (regAt z))
  | 2 => if z = 6 then aluIndexed xy y b1 else aluHalf xy y (halfAt z)
  | _ =>
    match z.toNat with
    | 1 =>
      match y.toNat with
      | 4 => pick xy .popIx .popIy
      | 5 => pick xy .jpIx .jpIy
      | _ => pick xy .ldSpIx .ldSpIy
    | 3 => if y = 4 then pick xy .exAtSpIx .exAtSpIy else pick xy .ddCbPrefix .fdCbPrefix
    | _ => pick xy .pushIx .pushIy

/-- The DDCB/FDCB table (R322); `d` comes before the opcode. -/
def decodeXyCb (xy : XY) (d op : Byte) : Instr :=
  let y := opY op
  let z := opZ op
  match (opX op).toNat with
  | 0 => if z = 6 then rotIndexed xy y d else rotIndexedCopy xy y d (regAt z)
  | 1 => pick xy (.bitAtIx y d z) (.bitAtIy y d z)
  | 2 => if z = 6 then pick xy (.resAtIx y d) (.resAtIy y d) else pick xy (.resAtIxR y d (regAt z)) (.resAtIyR y d (regAt z))
  | _ => if z = 6 then pick xy (.setAtIx y d) (.setAtIy y d) else pick xy (.setAtIxR y d (regAt z)) (.setAtIyR y d (regAt z))

/-! ### Units and streams -/

/-- The instruction of the unit `b0 b1 b2` under the latch (R323). Bytes past the unit's end do not matter, but for the
byte after 0xDD or 0xFD. Under DDCB/FDCB the unit is `d op`. -/
def decodeUnit (l : Latch) (b0 b1 b2 : Byte) : Instr :=
  match l with
  | .none => decodeBase b0 b1 b2
  | .cb => decodeCb b0
  | .ed => decodeEd b0 b1 b2
  | .dd => if xyIneffective b0 then decodeBase b0 b1 b2 else decodeXy .ix b0 b1 b2
  | .fd => if xyIneffective b0 then decodeBase b0 b1 b2 else decodeXy .iy b0 b1 b2
  | .ddcb => decodeXyCb .ix b0 b1
  | .fdcb => decodeXyCb .iy b0 b1

/-- Operand bytes after an unprefixed opcode (the `extra` of R324). -/
def baseOperands (op : Byte) : Nat :=
  let y := opY op
  let z := opZ op
  match (opX op).toNat with
  | 0 =>
    match z.toNat with
    | 0 => if y.toNat < 2 then 0 else 1
    | 1 => if opQ op = 0 then 2 else 0
    | 2 => if y.toNat < 4 then 0 else 2
    | 6 => 1
    | _ => 0
  | 3 =>
    match z.toNat with
    | 2 => 2
    | 4 => 2
    | 6 => 1
    | 3 => if y = 0 then 2 else if y = 2 || y = 3 then 1 else 0
    | 5 => if y = 1 then 2 else 0
    | _ => 0
  | _ => 0

/-- Whether an opcode uses `(HL)` as `r[6]`, and so takes a `d` under DD/FD (R324). -/
def takesDisplacement (op : Byte) : Bool :=
  match (opX op).toNat with
  | 1 => (opY op == 6) != (opZ op == 6)
  | 2 => opZ op == 6
  | _ => op == 0x34#8 || op == 0x35#8 || op == 0x36#8

/-- Bytes of the unit after its first (R324). Under DDCB/FDCB the first byte is `d` and the opcode follows, so that
`DD/FD CB d op` has 4 bytes, as R300, R322 and the rows' lengths say. DEDUCED: R324's own pseudocode counts 5 there, its
`len` being 2 already where it adds 3 (log 29). Unsafe only if R324 were right. -/
def operandCount (l : Latch) (op : Byte) : Nat :=
  match l with
  | .none => baseOperands op
  | .cb => 0
  | .ed => if opX op = 1 && opZ op = 3 then 2 else 0
  | .dd | .fd => if takesDisplacement op then baseOperands op + 1 else baseOperands op
  | .ddcb | .fdcb => 1

/-- Whether the instruction is a prefix byte that changes how the next bytes are read, and the latch it leaves. -/
def prefixLatch (i : Instr) : Option Latch :=
  match i with
  | .cbPrefix => some .cb
  | .edPrefix => some .ed
  | .ddPrefix => some .dd
  | .fdPrefix => some .fd
  | .ddCbPrefix => some .ddcb
  | .fdCbPrefix => some .fdcb
  | _ => none

/-- Why a list of bytes holds no instruction: no encoding is illegal (R325), so only its end can be missing. -/
inductive DecodeError where
  /-- the list is empty -/
  | noBytes
  /-- an operand byte is missing -/
  | truncated
  deriving DecidableEq, Repr

/-- The instruction at the head of a list of bytes read under a latch, and the bytes after it. A prefix with effect is
followed to the instruction it prefixes, or answered itself when nothing follows. -/
def decodeFrom (l : Latch) : List Byte → Except DecodeError (Instr × List Byte)
  | [] => .error .noBytes
  | b0 :: rest =>
    let n := operandCount l b0
    if rest.length < n then .error .truncated
    else
      let i := decodeUnit l b0 (rest.headD 0xCB#8) (rest.getD 1 0)
      match prefixLatch i with
      | none => .ok (i, rest.drop n)
      | some l' => if rest.isEmpty then .ok (i, []) else decodeFrom l' rest

/-- The instruction at the head of a list of bytes, and the bytes after it. -/
def decode (bytes : List Byte) : Except DecodeError (Instr × List Byte) := decodeFrom .none bytes

/-! ### The encoder -/

/-- The bytes of the instruction's own unit, opcode first, operands after it; for the DDCB/FDCB forms `d`, then the
opcode (spec/30_encoding.md R300, R301, and the encoding of the row in spec/opcode_table.json). -/
def encodeUnit (i : Instr) : List Byte :=
  match i with
  | .nop => [0x00#8]
  | .exAfAf => [0x08#8]
  | .djnz e => [0x10#8, e]
  | .jr e => [0x18#8, e]
  | .jrCc cc e => [mkOp 0 cc.code 0, e]
  | .ldRpNn rp nn => [mkOpPQ 0 rp.code 0 1, lo8 nn, hi8 nn]
  | .addHlRp rp => [mkOpPQ 0 rp.code 1 1]
  | .ldAtBcA => [0x02#8]
  | .ldAtDeA => [0x12#8]
  | .ldAtNnHl nn => [0x22#8, lo8 nn, hi8 nn]
  | .ldAtNnA nn => [0x32#8, lo8 nn, hi8 nn]
  | .ldAAtBc => [0x0A#8]
  | .ldAAtDe => [0x1A#8]
  | .ldHlAtNn nn => [0x2A#8, lo8 nn, hi8 nn]
  | .ldAAtNn nn => [0x3A#8, lo8 nn, hi8 nn]
  | .incRp rp => [mkOpPQ 0 rp.code 0 3]
  | .decRp rp => [mkOpPQ 0 rp.code 1 3]
  | .incR r => [mkOp 0 r.code 4]
  | .incAtHl => [0x34#8]
  | .decR r => [mkOp 0 r.code 5]
  | .decAtHl => [0x35#8]
  | .ldRN r n => [mkOp 0 r.code 6, n]
  | .ldAtHlN n => [0x36#8, n]
  | .rlca => [0x07#8]
  | .rrca => [0x0F#8]
  | .rla => [0x17#8]
  | .rra => [0x1F#8]
  | .daa => [0x27#8]
  | .cpl => [0x2F#8]
  | .scf => [0x37#8]
  | .ccf => [0x3F#8]
  | .ldRR r r' => [mkOp 1 r.code r'.code]
  | .ldRAtHl r => [mkOp 1 r.code 6]
  | .ldAtHlR r => [mkOp 1 6 r.code]
  | .halt => [0x76#8]
  | .addAR r => [mkOp 2 0 r.code]
  | .addAAtHl => [mkOp 2 0 6]
  | .addAN n => [mkOp 3 0 6, n]
  | .adcAR r => [mkOp 2 1 r.code]
  | .adcAAtHl => [mkOp 2 1 6]
  | .adcAN n => [mkOp 3 1 6, n]
  | .subR r => [mkOp 2 2 r.code]
  | .subAtHl => [mkOp 2 2 6]
  | .subN n => [mkOp 3 2 6, n]
  | .sbcAR r => [mkOp 2 3 r.code]
  | .sbcAAtHl => [mkOp 2 3 6]
  | .sbcAN n => [mkOp 3 3 6, n]
  | .andR r => [mkOp 2 4 r.code]
  | .andAtHl => [mkOp 2 4 6]
  | .andN n => [mkOp 3 4 6, n]
  | .xorR r => [mkOp 2 5 r.code]
  | .xorAtHl => [mkOp 2 5 6]
  | .xorN n => [mkOp 3 5 6, n]
  | .orR r => [mkOp 2 6 r.code]
  | .orAtHl => [mkOp 2 6 6]
  | .orN n => [mkOp 3 6 6, n]
  | .cpR r => [mkOp 2 7 r.code]
  | .cpAtHl => [mkOp 2 7 6]
  | .cpN n => [mkOp 3 7 6, n]
  | .retCc cc => [mkOp 3 cc.code 0]
  | .popRp2 rp2 => [mkOpPQ 3 rp2.code 0 1]
  | .ret => [0xC9#8]
  | .exx => [0xD9#8]
  | .jpHl => [0xE9#8]
  | .ldSpHl => [0xF9#8]
  | .jpCcNn cc nn => [mkOp 3 cc.code 2, lo8 nn, hi8 nn]
  | .jpNn nn => [0xC3#8, lo8 nn, hi8 nn]
  | .cbPrefix => [0xCB#8]
  | .outAtNA n => [0xD3#8, n]
  | .inAAtN n => [0xDB#8, n]
  | .exAtSpHl => [0xE3#8]
  | .exDeHl => [0xEB#8]
  | .di => [0xF3#8]
  | .ei => [0xFB#8]
  | .callCcNn cc nn => [mkOp 3 cc.code 4, lo8 nn, hi8 nn]
  | .pushRp2 rp2 => [mkOpPQ 3 rp2.code 0 5]
  | .callNn nn => [0xCD#8, lo8 nn, hi8 nn]
  | .ddPrefix => [0xDD#8]
  | .edPrefix => [0xED#8]
  | .fdPrefix => [0xFD#8]
  | .rst y => [mkOp 3 y 7]
  | .rlcR r => [mkOp 0 0 r.code]
  | .rlcAtHl => [mkOp 0 0 6]
  | .rrcR r => [mkOp 0 1 r.code]
  | .rrcAtHl => [mkOp 0 1 6]
  | .rlR r => [mkOp 0 2 r.code]
  | .rlAtHl => [mkOp 0 2 6]
  | .rrR r => [mkOp 0 3 r.code]
  | .rrAtHl => [mkOp 0 3 6]
  | .slaR r => [mkOp 0 4 r.code]
  | .slaAtHl => [mkOp 0 4 6]
  | .sraR r => [mkOp 0 5 r.code]
  | .sraAtHl => [mkOp 0 5 6]
  | .sllR r => [mkOp 0 6 r.code]
  | .sllAtHl => [mkOp 0 6 6]
  | .srlR r => [mkOp 0 7 r.code]
  | .srlAtHl => [mkOp 0 7 6]
  | .bitR b r => [mkOp 1 b r.code]
  | .bitAtHl b => [mkOp 1 b 6]
  | .resR b r => [mkOp 2 b r.code]
  | .resAtHl b => [mkOp 2 b 6]
  | .setR b r => [mkOp 3 b r.code]
  | .setAtHl b => [mkOp 3 b 6]
  | .inRC r => [mkOp 1 r.code 0]
  | .inFlagsC => [0x70#8]
  | .outCR r => [mkOp 1 r.code 1]
  | .outC0 => [0x71#8]
  | .sbcHlRp rp => [mkOpPQ 1 rp.code 0 2]
  | .adcHlRp rp => [mkOpPQ 1 rp.code 1 2]
  | .ldAtNnRp rp nn => [mkOpPQ 1 rp.code 0 3, lo8 nn, hi8 nn]
  | .ldRpAtNn rp nn => [mkOpPQ 1 rp.code 1 3, lo8 nn, hi8 nn]
  | .neg y => [mkOp 1 y 4]
  | .retn y => [mkOp 1 y 5]
  | .reti => [0x4D#8]
  | .im y => [mkOp 1 y 6]
  | .ldIA => [0x47#8]
  | .ldRA => [0x4F#8]
  | .ldAI => [0x57#8]
  | .ldAR => [0x5F#8]
  | .rrd => [0x67#8]
  | .rld => [0x6F#8]
  | .nopEd q => [mkOpPQ 1 3 q 7]
  | .ldi => [0xA0#8]
  | .cpi => [0xA1#8]
  | .ini => [0xA2#8]
  | .outi => [0xA3#8]
  | .ldd => [0xA8#8]
  | .cpd => [0xA9#8]
  | .ind => [0xAA#8]
  | .outd => [0xAB#8]
  | .ldir => [0xB0#8]
  | .cpir => [0xB1#8]
  | .inir => [0xB2#8]
  | .otir => [0xB3#8]
  | .lddr => [0xB8#8]
  | .cpdr => [0xB9#8]
  | .indr => [0xBA#8]
  | .otdr => [0xBB#8]
  | .noni op => [op]
  | .addIxRp rp => [mkOpPQ 0 rp.code 1 1]
  | .ldIxNn nn => [0x21#8, lo8 nn, hi8 nn]
  | .ldAtNnIx nn => [0x22#8, lo8 nn, hi8 nn]
  | .ldIxAtNn nn => [0x2A#8, lo8 nn, hi8 nn]
  | .incIx => [0x23#8]
  | .decIx => [0x2B#8]
  | .incIxHalf half => [mkOp 0 half.code 4]
  | .decIxHalf half => [mkOp 0 half.code 5]
  | .ldIxHalfN half n => [mkOp 0 half.code 6, n]
  | .incAtIx d => [0x34#8, d]
  | .decAtIx d => [0x35#8, d]
  | .ldAtIxN d n => [0x36#8, d, n]
  | .ldRRIxHalves r r' => [mkOp 1 r.code r'.code]
  | .ldRAtIx r d => [mkOp 1 r.code 6, d]
  | .ldAtIxR d r => [mkOp 1 6 r.code, d]
  | .addAIxHalf half => [mkOp 2 0 half.code]
  | .addAAtIx d => [mkOp 2 0 6, d]
  | .adcAIxHalf half => [mkOp 2 1 half.code]
  | .adcAAtIx d => [mkOp 2 1 6, d]
  | .subIxHalf half => [mkOp 2 2 half.code]
  | .subAtIx d => [mkOp 2 2 6, d]
  | .sbcAIxHalf half => [mkOp 2 3 half.code]
  | .sbcAAtIx d => [mkOp 2 3 6, d]
  | .andIxHalf half => [mkOp 2 4 half.code]
  | .andAtIx d => [mkOp 2 4 6, d]
  | .xorIxHalf half => [mkOp 2 5 half.code]
  | .xorAtIx d => [mkOp 2 5 6, d]
  | .orIxHalf half => [mkOp 2 6 half.code]
  | .orAtIx d => [mkOp 2 6 6, d]
  | .cpIxHalf half => [mkOp 2 7 half.code]
  | .cpAtIx d => [mkOp 2 7 6, d]
  | .popIx => [0xE1#8]
  | .exAtSpIx => [0xE3#8]
  | .pushIx => [0xE5#8]
  | .jpIx => [0xE9#8]
  | .ldSpIx => [0xF9#8]
  | .ddCbPrefix => [0xCB#8]
  | .ddNoEffect _ => [0xDD#8]
  | .rlcAtIx d => [d, mkOp 0 0 6]
  | .rlcAtIxR d r => [d, mkOp 0 0 r.code]
  | .rrcAtIx d => [d, mkOp 0 1 6]
  | .rrcAtIxR d r => [d, mkOp 0 1 r.code]
  | .rlAtIx d => [d, mkOp 0 2 6]
  | .rlAtIxR d r => [d, mkOp 0 2 r.code]
  | .rrAtIx d => [d, mkOp 0 3 6]
  | .rrAtIxR d r => [d, mkOp 0 3 r.code]
  | .slaAtIx d => [d, mkOp 0 4 6]
  | .slaAtIxR d r => [d, mkOp 0 4 r.code]
  | .sraAtIx d => [d, mkOp 0 5 6]
  | .sraAtIxR d r => [d, mkOp 0 5 r.code]
  | .sllAtIx d => [d, mkOp 0 6 6]
  | .sllAtIxR d r => [d, mkOp 0 6 r.code]
  | .srlAtIx d => [d, mkOp 0 7 6]
  | .srlAtIxR d r => [d, mkOp 0 7 r.code]
  | .bitAtIx b d z => [d, mkOp 1 b z]
  | .resAtIx b d => [d, mkOp 2 b 6]
  | .resAtIxR b d r => [d, mkOp 2 b r.code]
  | .setAtIx b d => [d, mkOp 3 b 6]
  | .setAtIxR b d r => [d, mkOp 3 b r.code]
  | .addIyRp rp => [mkOpPQ 0 rp.code 1 1]
  | .ldIyNn nn => [0x21#8, lo8 nn, hi8 nn]
  | .ldAtNnIy nn => [0x22#8, lo8 nn, hi8 nn]
  | .ldIyAtNn nn => [0x2A#8, lo8 nn, hi8 nn]
  | .incIy => [0x23#8]
  | .decIy => [0x2B#8]
  | .incIyHalf half => [mkOp 0 half.code 4]
  | .decIyHalf half => [mkOp 0 half.code 5]
  | .ldIyHalfN half n => [mkOp 0 half.code 6, n]
  | .incAtIy d => [0x34#8, d]
  | .decAtIy d => [0x35#8, d]
  | .ldAtIyN d n => [0x36#8, d, n]
  | .ldRRIyHalves r r' => [mkOp 1 r.code r'.code]
  | .ldRAtIy r d => [mkOp 1 r.code 6, d]
  | .ldAtIyR d r => [mkOp 1 6 r.code, d]
  | .addAIyHalf half => [mkOp 2 0 half.code]
  | .addAAtIy d => [mkOp 2 0 6, d]
  | .adcAIyHalf half => [mkOp 2 1 half.code]
  | .adcAAtIy d => [mkOp 2 1 6, d]
  | .subIyHalf half => [mkOp 2 2 half.code]
  | .subAtIy d => [mkOp 2 2 6, d]
  | .sbcAIyHalf half => [mkOp 2 3 half.code]
  | .sbcAAtIy d => [mkOp 2 3 6, d]
  | .andIyHalf half => [mkOp 2 4 half.code]
  | .andAtIy d => [mkOp 2 4 6, d]
  | .xorIyHalf half => [mkOp 2 5 half.code]
  | .xorAtIy d => [mkOp 2 5 6, d]
  | .orIyHalf half => [mkOp 2 6 half.code]
  | .orAtIy d => [mkOp 2 6 6, d]
  | .cpIyHalf half => [mkOp 2 7 half.code]
  | .cpAtIy d => [mkOp 2 7 6, d]
  | .popIy => [0xE1#8]
  | .exAtSpIy => [0xE3#8]
  | .pushIy => [0xE5#8]
  | .jpIy => [0xE9#8]
  | .ldSpIy => [0xF9#8]
  | .fdCbPrefix => [0xCB#8]
  | .fdNoEffect _ => [0xFD#8]
  | .rlcAtIy d => [d, mkOp 0 0 6]
  | .rlcAtIyR d r => [d, mkOp 0 0 r.code]
  | .rrcAtIy d => [d, mkOp 0 1 6]
  | .rrcAtIyR d r => [d, mkOp 0 1 r.code]
  | .rlAtIy d => [d, mkOp 0 2 6]
  | .rlAtIyR d r => [d, mkOp 0 2 r.code]
  | .rrAtIy d => [d, mkOp 0 3 6]
  | .rrAtIyR d r => [d, mkOp 0 3 r.code]
  | .slaAtIy d => [d, mkOp 0 4 6]
  | .slaAtIyR d r => [d, mkOp 0 4 r.code]
  | .sraAtIy d => [d, mkOp 0 5 6]
  | .sraAtIyR d r => [d, mkOp 0 5 r.code]
  | .sllAtIy d => [d, mkOp 0 6 6]
  | .sllAtIyR d r => [d, mkOp 0 6 r.code]
  | .srlAtIy d => [d, mkOp 0 7 6]
  | .srlAtIyR d r => [d, mkOp 0 7 r.code]
  | .bitAtIy b d z => [d, mkOp 1 b z]
  | .resAtIy b d => [d, mkOp 2 b 6]
  | .resAtIyR b d r => [d, mkOp 2 b r.code]
  | .setAtIy b d => [d, mkOp 3 b 6]
  | .setAtIyR b d r => [d, mkOp 3 b r.code]

/-- The prefix under which the unit is read (spec/30_encoding.md R323). -/
def latchOf (i : Instr) : Latch :=
  match i with
  | .nop => .none
  | .exAfAf => .none
  | .djnz _ => .none
  | .jr _ => .none
  | .jrCc _ _ => .none
  | .ldRpNn _ _ => .none
  | .addHlRp _ => .none
  | .ldAtBcA => .none
  | .ldAtDeA => .none
  | .ldAtNnHl _ => .none
  | .ldAtNnA _ => .none
  | .ldAAtBc => .none
  | .ldAAtDe => .none
  | .ldHlAtNn _ => .none
  | .ldAAtNn _ => .none
  | .incRp _ => .none
  | .decRp _ => .none
  | .incR _ => .none
  | .incAtHl => .none
  | .decR _ => .none
  | .decAtHl => .none
  | .ldRN _ _ => .none
  | .ldAtHlN _ => .none
  | .rlca => .none
  | .rrca => .none
  | .rla => .none
  | .rra => .none
  | .daa => .none
  | .cpl => .none
  | .scf => .none
  | .ccf => .none
  | .ldRR _ _ => .none
  | .ldRAtHl _ => .none
  | .ldAtHlR _ => .none
  | .halt => .none
  | .addAR _ => .none
  | .addAAtHl => .none
  | .addAN _ => .none
  | .adcAR _ => .none
  | .adcAAtHl => .none
  | .adcAN _ => .none
  | .subR _ => .none
  | .subAtHl => .none
  | .subN _ => .none
  | .sbcAR _ => .none
  | .sbcAAtHl => .none
  | .sbcAN _ => .none
  | .andR _ => .none
  | .andAtHl => .none
  | .andN _ => .none
  | .xorR _ => .none
  | .xorAtHl => .none
  | .xorN _ => .none
  | .orR _ => .none
  | .orAtHl => .none
  | .orN _ => .none
  | .cpR _ => .none
  | .cpAtHl => .none
  | .cpN _ => .none
  | .retCc _ => .none
  | .popRp2 _ => .none
  | .ret => .none
  | .exx => .none
  | .jpHl => .none
  | .ldSpHl => .none
  | .jpCcNn _ _ => .none
  | .jpNn _ => .none
  | .cbPrefix => .none
  | .outAtNA _ => .none
  | .inAAtN _ => .none
  | .exAtSpHl => .none
  | .exDeHl => .none
  | .di => .none
  | .ei => .none
  | .callCcNn _ _ => .none
  | .pushRp2 _ => .none
  | .callNn _ => .none
  | .ddPrefix => .none
  | .edPrefix => .none
  | .fdPrefix => .none
  | .rst _ => .none
  | .ddNoEffect _ => .none
  | .fdNoEffect _ => .none
  | .rlcR _ => .cb
  | .rlcAtHl => .cb
  | .rrcR _ => .cb
  | .rrcAtHl => .cb
  | .rlR _ => .cb
  | .rlAtHl => .cb
  | .rrR _ => .cb
  | .rrAtHl => .cb
  | .slaR _ => .cb
  | .slaAtHl => .cb
  | .sraR _ => .cb
  | .sraAtHl => .cb
  | .sllR _ => .cb
  | .sllAtHl => .cb
  | .srlR _ => .cb
  | .srlAtHl => .cb
  | .bitR _ _ => .cb
  | .bitAtHl _ => .cb
  | .resR _ _ => .cb
  | .resAtHl _ => .cb
  | .setR _ _ => .cb
  | .setAtHl _ => .cb
  | .inRC _ => .ed
  | .inFlagsC => .ed
  | .outCR _ => .ed
  | .outC0 => .ed
  | .sbcHlRp _ => .ed
  | .adcHlRp _ => .ed
  | .ldAtNnRp _ _ => .ed
  | .ldRpAtNn _ _ => .ed
  | .neg _ => .ed
  | .retn _ => .ed
  | .reti => .ed
  | .im _ => .ed
  | .ldIA => .ed
  | .ldRA => .ed
  | .ldAI => .ed
  | .ldAR => .ed
  | .rrd => .ed
  | .rld => .ed
  | .nopEd _ => .ed
  | .ldi => .ed
  | .cpi => .ed
  | .ini => .ed
  | .outi => .ed
  | .ldd => .ed
  | .cpd => .ed
  | .ind => .ed
  | .outd => .ed
  | .ldir => .ed
  | .cpir => .ed
  | .inir => .ed
  | .otir => .ed
  | .lddr => .ed
  | .cpdr => .ed
  | .indr => .ed
  | .otdr => .ed
  | .noni _ => .ed
  | .addIxRp _ => .dd
  | .ldIxNn _ => .dd
  | .ldAtNnIx _ => .dd
  | .ldIxAtNn _ => .dd
  | .incIx => .dd
  | .decIx => .dd
  | .incIxHalf _ => .dd
  | .decIxHalf _ => .dd
  | .ldIxHalfN _ _ => .dd
  | .incAtIx _ => .dd
  | .decAtIx _ => .dd
  | .ldAtIxN _ _ => .dd
  | .ldRRIxHalves _ _ => .dd
  | .ldRAtIx _ _ => .dd
  | .ldAtIxR _ _ => .dd
  | .addAIxHalf _ => .dd
  | .addAAtIx _ => .dd
  | .adcAIxHalf _ => .dd
  | .adcAAtIx _ => .dd
  | .subIxHalf _ => .dd
  | .subAtIx _ => .dd
  | .sbcAIxHalf _ => .dd
  | .sbcAAtIx _ => .dd
  | .andIxHalf _ => .dd
  | .andAtIx _ => .dd
  | .xorIxHalf _ => .dd
  | .xorAtIx _ => .dd
  | .orIxHalf _ => .dd
  | .orAtIx _ => .dd
  | .cpIxHalf _ => .dd
  | .cpAtIx _ => .dd
  | .popIx => .dd
  | .exAtSpIx => .dd
  | .pushIx => .dd
  | .jpIx => .dd
  | .ldSpIx => .dd
  | .ddCbPrefix => .dd
  | .rlcAtIx _ => .ddcb
  | .rlcAtIxR _ _ => .ddcb
  | .rrcAtIx _ => .ddcb
  | .rrcAtIxR _ _ => .ddcb
  | .rlAtIx _ => .ddcb
  | .rlAtIxR _ _ => .ddcb
  | .rrAtIx _ => .ddcb
  | .rrAtIxR _ _ => .ddcb
  | .slaAtIx _ => .ddcb
  | .slaAtIxR _ _ => .ddcb
  | .sraAtIx _ => .ddcb
  | .sraAtIxR _ _ => .ddcb
  | .sllAtIx _ => .ddcb
  | .sllAtIxR _ _ => .ddcb
  | .srlAtIx _ => .ddcb
  | .srlAtIxR _ _ => .ddcb
  | .bitAtIx _ _ _ => .ddcb
  | .resAtIx _ _ => .ddcb
  | .resAtIxR _ _ _ => .ddcb
  | .setAtIx _ _ => .ddcb
  | .setAtIxR _ _ _ => .ddcb
  | .addIyRp _ => .fd
  | .ldIyNn _ => .fd
  | .ldAtNnIy _ => .fd
  | .ldIyAtNn _ => .fd
  | .incIy => .fd
  | .decIy => .fd
  | .incIyHalf _ => .fd
  | .decIyHalf _ => .fd
  | .ldIyHalfN _ _ => .fd
  | .incAtIy _ => .fd
  | .decAtIy _ => .fd
  | .ldAtIyN _ _ => .fd
  | .ldRRIyHalves _ _ => .fd
  | .ldRAtIy _ _ => .fd
  | .ldAtIyR _ _ => .fd
  | .addAIyHalf _ => .fd
  | .addAAtIy _ => .fd
  | .adcAIyHalf _ => .fd
  | .adcAAtIy _ => .fd
  | .subIyHalf _ => .fd
  | .subAtIy _ => .fd
  | .sbcAIyHalf _ => .fd
  | .sbcAAtIy _ => .fd
  | .andIyHalf _ => .fd
  | .andAtIy _ => .fd
  | .xorIyHalf _ => .fd
  | .xorAtIy _ => .fd
  | .orIyHalf _ => .fd
  | .orAtIy _ => .fd
  | .cpIyHalf _ => .fd
  | .cpAtIy _ => .fd
  | .popIy => .fd
  | .exAtSpIy => .fd
  | .pushIy => .fd
  | .jpIy => .fd
  | .ldSpIy => .fd
  | .fdCbPrefix => .fd
  | .rlcAtIy _ => .fdcb
  | .rlcAtIyR _ _ => .fdcb
  | .rrcAtIy _ => .fdcb
  | .rrcAtIyR _ _ => .fdcb
  | .rlAtIy _ => .fdcb
  | .rlAtIyR _ _ => .fdcb
  | .rrAtIy _ => .fdcb
  | .rrAtIyR _ _ => .fdcb
  | .slaAtIy _ => .fdcb
  | .slaAtIyR _ _ => .fdcb
  | .sraAtIy _ => .fdcb
  | .sraAtIyR _ _ => .fdcb
  | .sllAtIy _ => .fdcb
  | .sllAtIyR _ _ => .fdcb
  | .srlAtIy _ => .fdcb
  | .srlAtIyR _ _ => .fdcb
  | .bitAtIy _ _ _ => .fdcb
  | .resAtIy _ _ => .fdcb
  | .resAtIyR _ _ _ => .fdcb
  | .setAtIy _ _ => .fdcb
  | .setAtIyR _ _ _ => .fdcb

/-- The prefix bytes that bring the latch about (spec/30_encoding.md R300). -/
def latchBytes (l : Latch) : List Byte :=
  match l with
  | .none => []
  | .cb => [0xCB#8]
  | .ed => [0xED#8]
  | .dd => [0xDD#8]
  | .fd => [0xFD#8]
  | .ddcb => [0xDD#8, 0xCB#8]
  | .fdcb => [0xFD#8, 0xCB#8]

/-- The byte after a prefix without effect, which is not part of its unit but makes it one (spec/49_cpu_control.md R786). -/
def lookahead (i : Instr) : List Byte :=
  match i with
  | .ddNoEffect op => [op]
  | .fdNoEffect op => [op]
  | _ => []

/-- The bytes of a well-formed instruction, prefix included. -/
def encode (i : Instr) : List Byte := latchBytes (latchOf i) ++ encodeUnit i ++ lookahead i

/-! ### Words of the opcode table -/

/-- The first `n` bytes of a word, the least significant first: byte `k` of the instruction is bits `8k+7 .. 8k`. -/
def wordBytes : Nat → Nat → List Byte
  | 0, _ => []
  | n + 1, w => BitVec.ofNat 8 w :: wordBytes n (w / 256)

/-- The longest instruction, in bytes (R300). -/
def maxLength : Nat := 4

/-- The instruction the decoder reads from the `nbits` bits `w`: from those bytes alone, or, where they end inside its
operands, with zeros after them. -/
def decodeTableWord (nbits w : Nat) : Option Instr :=
  let n := (nbits + 7) / 8
  match decode (wordBytes n w) with
  | .ok (i, _) => some i
  | .error _ =>
    match decode (wordBytes n w ++ List.replicate maxLength 0) with
    | .ok (i, _) => some i
    | .error _ => none

end Sys2Proof
end

