-- ==== Sys2Proof/Machine/Fetch.lean ====
section
/-! DEFINITION. Fetching a unit at the instruction level (spec/40_step_machine.md R400, R403, R406, R409, R410), and
placing one for the host. -/

namespace Sys2Proof.Machine

/-- The core waits for the two bytes of a DDCB/FDCB unit (spec/40_step_machine.md R410, after step 1). -/
def awaitsXyCb (l : Latch) : Bool :=
  match l with
  | .ddcb | .fdcb => true
  | .none | .cb | .ed | .dd | .fd => false

/-- The instruction of the unit the core fetches next: the bytes at PC under the prefix latch, or, under DDCB/FDCB, `d`
at the requested address and the opcode at PC (R410). The bytes are looked up here and fetched in `fetched`
(log 10). -/
def nextInstr (s : State) : Instr :=
  if awaitsXyCb s.latch then decodeUnit s.latch (upcoming 0 s.seq.nextAddr s) (upcoming 1 s.regs.pc s) 0
  else
    decodeUnit s.latch (upcoming 0 s.regs.pc s) (upcoming 1 (s.regs.pc + 1) s) (upcoming 2 (s.regs.pc + 2) s)

/-- T-states held on the FETCH of an opcode that still has operands to read: one for DJNZ, else none
(spec/45_stack_control.md R627). -/
def opcodeHold (l : Latch) (op : Byte) : Nat :=
  match l with
  | .none | .dd | .fd => if op = 0x10#8 then 1 else 0
  | .cb | .ed | .ddcb | .fdcb => 0

/-- The FETCH cycle at PC, with its register updates and the decode fields (R400, R416). -/
def fetchOpcode (s : State) : State :=
  let s := sampleMemory .fetch s.regs.pc 4 s
  fetchUpdates { s with seq := { s.seq with step := 1 } }

/-- The operand bytes, each requested in one step and taken in the next (R403, R406). -/
def fetchOperands (n : Nat) (s : State) : State :=
  match n with
  | 0 => s
  | 1 => takeLow (busCycle (requestOperand s))
  | _ => takeHigh (busCycle (requestOperand (takeLow (busCycle (requestOperand s)))))

/-- `d` and the opcode of a DDCB/FDCB unit: the READ requested at the prefix, then one at PC (R410). Neither increments
R. -/
def fetchXyCb (s : State) : State :=
  let s := takeLow (busCycle (reqRead s.seq.nextAddr s))
  let s := busCycle (requestOperand s)
  setFields s.seq.dataIn s

/-- The state in which the unit's bytes are fetched and its own steps begin. -/
def fetched (s : State) : State :=
  if awaitsXyCb s.latch then fetchXyCb s
  else
    let op := memAnswer s.regs.pc s
    let n := operandCount s.latch op
    let s := fetchOpcode s
    fetchOperands n (if opcodeHold s.latch op = 0 then s else holdFor (opcodeHold s.latch op) s)

/-- No unit is in progress: the last cycle has ended with its hold, and what comes next is a FETCH, or, after a DDCB/FDCB
prefix, the READ of `d` (spec/20_memory.md R224, spec/40_step_machine.md R410). -/
def State.atBoundary (s : State) : Bool :=
  s.seq.ended && s.seq.holdLeft == 0
    && (if awaitsXyCb s.latch then s.seq.nextCycle == .read && s.seq.step == 1 else s.seq.nextCycle == .fetch)

/-- The core dispatches nothing: it is inactive or halted (spec/40_step_machine.md R413, R414). -/
def State.dormant (s : State) : Bool := !s.active || s.halted

/-! ### Placing an instruction where the next step fetches it (log 8, log 28) -/

/-- The bytes placed for a table word: its own, then zeros; after a lone 0xDD or 0xFD a 0xCB, so that the unit is the
prefix itself (`decodeTableWord`). -/
def placedBytes (nbits w : Nat) : List Byte :=
  let n := (nbits + 7) / 8
  let filler := match decodeTableWord nbits w with
    | some .ddPrefix | some .fdPrefix => 0xCB#8 :: List.replicate maxLength 0
    | _ => List.replicate maxLength 0
  wordBytes n w ++ filler

/-- The prefix under which the placed instruction is read, and how many of its bytes are prefix bytes. -/
def placedPrefix (nbits w : Nat) : Latch × Nat :=
  match decodeTableWord nbits w with
  | some i => (latchOf i, (latchBytes (latchOf i)).length)
  | none => (.none, 0)

/-- The state with the placed instruction as the next unit: its bytes at PC, its prefix already fetched, and the core at
a boundary, running. -/
def placeWord (s : State) (nbits w : Nat) : State :=
  let (l, n) := placedPrefix nbits w
  let a := s.regs.pc
  let opcodeAt := a + BitVec.ofNat 16 n
  let boundary : Seq := { s.seq with
    ended := true, hold := false, holdLeft := 0, done := false, step := if n = 0 then 0 else 1 }
  { s with
    mem := s.mem.writeBytes a (placedBytes nbits w)
    memTape := []
    latch := l
    active := true
    resetLow := false
    halted := false
    seq := if awaitsXyCb l then { boundary with nextCycle := .read, nextAddr := opcodeAt }
           else { boundary with nextCycle := .fetch }
    regs := { s.regs with pc := if awaitsXyCb l then opcodeAt + 1 else opcodeAt } }

end Sys2Proof.Machine
end

