-- ==== Sys2Proof/Machine/Programs.lean ====
section
/-! DEFINITION. The steps of every instruction, for the edge-level machine (spec/40_step_machine.md R411). -/

namespace Sys2Proof.Machine

/-- The instruction's steps after the last opcode or operand byte. -/
def programOf (i : Instr) : Program :=
  match i with
  | .nop => progNop
  | .exAfAf => progExAfAf
  | .djnz e => progDjnz e
  | .jr e => progJr e
  | .jrCc cc e => progJrCc cc e
  | .ldRpNn rp nn => progLdRpNn rp nn
  | .addHlRp rp => progAddHlRp rp
  | .ldAtBcA => progLdAtBcA
  | .ldAtDeA => progLdAtDeA
  | .ldAtNnHl nn => progLdAtNnHl nn
  | .ldAtNnA nn => progLdAtNnA nn
  | .ldAAtBc => progLdAAtBc
  | .ldAAtDe => progLdAAtDe
  | .ldHlAtNn nn => progLdHlAtNn nn
  | .ldAAtNn nn => progLdAAtNn nn
  | .incRp rp => progIncRp rp
  | .decRp rp => progDecRp rp
  | .incR r => progIncR r
  | .incAtHl => progIncAtHl
  | .decR r => progDecR r
  | .decAtHl => progDecAtHl
  | .ldRN r n => progLdRN r n
  | .ldAtHlN n => progLdAtHlN n
  | .rlca => progRlca
  | .rrca => progRrca
  | .rla => progRla
  | .rra => progRra
  | .daa => progDaa
  | .cpl => progCpl
  | .scf => progScf
  | .ccf => progCcf
  | .ldRR r r' => progLdRR r r'
  | .ldRAtHl r => progLdRAtHl r
  | .ldAtHlR r => progLdAtHlR r
  | .halt => progHalt
  | .addAR r => progAddAR r
  | .addAAtHl => progAddAAtHl
  | .addAN n => progAddAN n
  | .adcAR r => progAdcAR r
  | .adcAAtHl => progAdcAAtHl
  | .adcAN n => progAdcAN n
  | .subR r => progSubR r
  | .subAtHl => progSubAtHl
  | .subN n => progSubN n
  | .sbcAR r => progSbcAR r
  | .sbcAAtHl => progSbcAAtHl
  | .sbcAN n => progSbcAN n
  | .andR r => progAndR r
  | .andAtHl => progAndAtHl
  | .andN n => progAndN n
  | .xorR r => progXorR r
  | .xorAtHl => progXorAtHl
  | .xorN n => progXorN n
  | .orR r => progOrR r
  | .orAtHl => progOrAtHl
  | .orN n => progOrN n
  | .cpR r => progCpR r
  | .cpAtHl => progCpAtHl
  | .cpN n => progCpN n
  | .retCc cc => progRetCc cc
  | .popRp2 rp2 => progPopRp2 rp2
  | .ret => progRet
  | .exx => progExx
  | .jpHl => progJpHl
  | .ldSpHl => progLdSpHl
  | .jpCcNn cc nn => progJpCcNn cc nn
  | .jpNn nn => progJpNn nn
  | .cbPrefix => progCbPrefix
  | .outAtNA n => progOutAtNA n
  | .inAAtN n => progInAAtN n
  | .exAtSpHl => progExAtSpHl
  | .exDeHl => progExDeHl
  | .di => progDi
  | .ei => progEi
  | .callCcNn cc nn => progCallCcNn cc nn
  | .pushRp2 rp2 => progPushRp2 rp2
  | .callNn nn => progCallNn nn
  | .ddPrefix => progDdPrefix
  | .edPrefix => progEdPrefix
  | .fdPrefix => progFdPrefix
  | .rst y => progRst y
  | .rlcR r => progRlcR r
  | .rlcAtHl => progRlcAtHl
  | .rrcR r => progRrcR r
  | .rrcAtHl => progRrcAtHl
  | .rlR r => progRlR r
  | .rlAtHl => progRlAtHl
  | .rrR r => progRrR r
  | .rrAtHl => progRrAtHl
  | .slaR r => progSlaR r
  | .slaAtHl => progSlaAtHl
  | .sraR r => progSraR r
  | .sraAtHl => progSraAtHl
  | .sllR r => progSllR r
  | .sllAtHl => progSllAtHl
  | .srlR r => progSrlR r
  | .srlAtHl => progSrlAtHl
  | .bitR b r => progBitR b r
  | .bitAtHl b => progBitAtHl b
  | .resR b r => progResR b r
  | .resAtHl b => progResAtHl b
  | .setR b r => progSetR b r
  | .setAtHl b => progSetAtHl b
  | .inRC r => progInRC r
  | .inFlagsC => progInFlagsC
  | .outCR r => progOutCR r
  | .outC0 => progOutC0
  | .sbcHlRp rp => progSbcHlRp rp
  | .adcHlRp rp => progAdcHlRp rp
  | .ldAtNnRp rp nn => progLdAtNnRp rp nn
  | .ldRpAtNn rp nn => progLdRpAtNn rp nn
  | .neg y => progNeg y
  | .retn y => progRetn y
  | .reti => progReti
  | .im y => progIm y
  | .ldIA => progLdIA
  | .ldRA => progLdRA
  | .ldAI => progLdAI
  | .ldAR => progLdAR
  | .rrd => progRrd
  | .rld => progRld
  | .nopEd q => progNopEd q
  | .ldi => progLdi
  | .cpi => progCpi
  | .ini => progIni
  | .outi => progOuti
  | .ldd => progLdd
  | .cpd => progCpd
  | .ind => progInd
  | .outd => progOutd
  | .ldir => progLdir
  | .cpir => progCpir
  | .inir => progInir
  | .otir => progOtir
  | .lddr => progLddr
  | .cpdr => progCpdr
  | .indr => progIndr
  | .otdr => progOtdr
  | .noni op => progNoni op
  | .addIxRp rp => progAddIxRp rp
  | .ldIxNn nn => progLdIxNn nn
  | .ldAtNnIx nn => progLdAtNnIx nn
  | .ldIxAtNn nn => progLdIxAtNn nn
  | .incIx => progIncIx
  | .decIx => progDecIx
  | .incIxHalf half => progIncIxHalf half
  | .decIxHalf half => progDecIxHalf half
  | .ldIxHalfN half n => progLdIxHalfN half n
  | .incAtIx d => progIncAtIx d
  | .decAtIx d => progDecAtIx d
  | .ldAtIxN d n => progLdAtIxN d n
  | .ldRRIxHalves r r' => progLdRRIxHalves r r'
  | .ldRAtIx r d => progLdRAtIx r d
  | .ldAtIxR d r => progLdAtIxR d r
  | .addAIxHalf half => progAddAIxHalf half
  | .addAAtIx d => progAddAAtIx d
  | .adcAIxHalf half => progAdcAIxHalf half
  | .adcAAtIx d => progAdcAAtIx d
  | .subIxHalf half => progSubIxHalf half
  | .subAtIx d => progSubAtIx d
  | .sbcAIxHalf half => progSbcAIxHalf half
  | .sbcAAtIx d => progSbcAAtIx d
  | .andIxHalf half => progAndIxHalf half
  | .andAtIx d => progAndAtIx d
  | .xorIxHalf half => progXorIxHalf half
  | .xorAtIx d => progXorAtIx d
  | .orIxHalf half => progOrIxHalf half
  | .orAtIx d => progOrAtIx d
  | .cpIxHalf half => progCpIxHalf half
  | .cpAtIx d => progCpAtIx d
  | .popIx => progPopIx
  | .exAtSpIx => progExAtSpIx
  | .pushIx => progPushIx
  | .jpIx => progJpIx
  | .ldSpIx => progLdSpIx
  | .ddCbPrefix => progDdCbPrefix
  | .ddNoEffect op => progDdNoEffect op
  | .rlcAtIx d => progRlcAtIx d
  | .rlcAtIxR d r => progRlcAtIxR d r
  | .rrcAtIx d => progRrcAtIx d
  | .rrcAtIxR d r => progRrcAtIxR d r
  | .rlAtIx d => progRlAtIx d
  | .rlAtIxR d r => progRlAtIxR d r
  | .rrAtIx d => progRrAtIx d
  | .rrAtIxR d r => progRrAtIxR d r
  | .slaAtIx d => progSlaAtIx d
  | .slaAtIxR d r => progSlaAtIxR d r
  | .sraAtIx d => progSraAtIx d
  | .sraAtIxR d r => progSraAtIxR d r
  | .sllAtIx d => progSllAtIx d
  | .sllAtIxR d r => progSllAtIxR d r
  | .srlAtIx d => progSrlAtIx d
  | .srlAtIxR d r => progSrlAtIxR d r
  | .bitAtIx b d z => progBitAtIx b d z
  | .resAtIx b d => progResAtIx b d
  | .resAtIxR b d r => progResAtIxR b d r
  | .setAtIx b d => progSetAtIx b d
  | .setAtIxR b d r => progSetAtIxR b d r
  | .addIyRp rp => progAddIyRp rp
  | .ldIyNn nn => progLdIyNn nn
  | .ldAtNnIy nn => progLdAtNnIy nn
  | .ldIyAtNn nn => progLdIyAtNn nn
  | .incIy => progIncIy
  | .decIy => progDecIy
  | .incIyHalf half => progIncIyHalf half
  | .decIyHalf half => progDecIyHalf half
  | .ldIyHalfN half n => progLdIyHalfN half n
  | .incAtIy d => progIncAtIy d
  | .decAtIy d => progDecAtIy d
  | .ldAtIyN d n => progLdAtIyN d n
  | .ldRRIyHalves r r' => progLdRRIyHalves r r'
  | .ldRAtIy r d => progLdRAtIy r d
  | .ldAtIyR d r => progLdAtIyR d r
  | .addAIyHalf half => progAddAIyHalf half
  | .addAAtIy d => progAddAAtIy d
  | .adcAIyHalf half => progAdcAIyHalf half
  | .adcAAtIy d => progAdcAAtIy d
  | .subIyHalf half => progSubIyHalf half
  | .subAtIy d => progSubAtIy d
  | .sbcAIyHalf half => progSbcAIyHalf half
  | .sbcAAtIy d => progSbcAAtIy d
  | .andIyHalf half => progAndIyHalf half
  | .andAtIy d => progAndAtIy d
  | .xorIyHalf half => progXorIyHalf half
  | .xorAtIy d => progXorAtIy d
  | .orIyHalf half => progOrIyHalf half
  | .orAtIy d => progOrAtIy d
  | .cpIyHalf half => progCpIyHalf half
  | .cpAtIy d => progCpAtIy d
  | .popIy => progPopIy
  | .exAtSpIy => progExAtSpIy
  | .pushIy => progPushIy
  | .jpIy => progJpIy
  | .ldSpIy => progLdSpIy
  | .fdCbPrefix => progFdCbPrefix
  | .fdNoEffect op => progFdNoEffect op
  | .rlcAtIy d => progRlcAtIy d
  | .rlcAtIyR d r => progRlcAtIyR d r
  | .rrcAtIy d => progRrcAtIy d
  | .rrcAtIyR d r => progRrcAtIyR d r
  | .rlAtIy d => progRlAtIy d
  | .rlAtIyR d r => progRlAtIyR d r
  | .rrAtIy d => progRrAtIy d
  | .rrAtIyR d r => progRrAtIyR d r
  | .slaAtIy d => progSlaAtIy d
  | .slaAtIyR d r => progSlaAtIyR d r
  | .sraAtIy d => progSraAtIy d
  | .sraAtIyR d r => progSraAtIyR d r
  | .sllAtIy d => progSllAtIy d
  | .sllAtIyR d r => progSllAtIyR d r
  | .srlAtIy d => progSrlAtIy d
  | .srlAtIyR d r => progSrlAtIyR d r
  | .bitAtIy b d z => progBitAtIy b d z
  | .resAtIy b d => progResAtIy b d
  | .resAtIyR b d r => progResAtIyR b d r
  | .setAtIy b d => progSetAtIy b d
  | .setAtIyR b d r => progSetAtIyR b d r

end Sys2Proof.Machine
end

