-- ==== Sys2Proof/Machine/StepMachine.lean ====
section
/-! DEFINITION. The instruction step machine, one invocation at a time (spec/40_step_machine.md R400 to R410), as
the bus-cycle machine of Machine/BusCycle.lean invokes it. -/

namespace Sys2Proof.Machine

/-- The opcode byte the decode fields were computed from (spec/30_encoding.md R301, R302). -/
def State.opcode (s : State) : Byte := mkOp s.fields.x s.fields.y s.fields.z

/-- The instruction in progress, from the prefix latch, the decode fields and the operand bytes in WZ (R402, R406). -/
def currentInstr (s : State) : Instr :=
  if awaitsXyCb s.latch then decodeUnit s.latch (lo8 s.regs.wz) s.opcode 0
  else decodeUnit s.latch s.opcode (lo8 s.regs.wz) (hi8 s.regs.wz)

/-- Step `n` of the instruction's own steps. -/
def runStep (n : Nat) (s : State) : State :=
  match (programOf (currentInstr s))[n]? with
  | some f => f s
  | none => s

/-- `Z <- data_in` on step 2, `W <- data_in` on step 3 (R406). -/
def takeOperand (step : Nat) (s : State) : State := if step = 2 then takeLow s else takeHigh s

/-- A step of a DDCB/FDCB instruction after the prefix's own (R410). -/
def invokeXyCb (s : State) : State :=
  let k := s.seq.step
  if k = 2 then requestOperand (takeLow s)
  else runStep (k - 3) (if k = 3 then setFields s.seq.dataIn s else s)

/-- A step of any other instruction: the fetch updates on step 1, then the operand bytes, then its own steps (R400,
R401, R403, R406). -/
def invokePlain (s : State) : State :=
  let k := s.seq.step
  let s := if k = 1 then fetchUpdates s else s
  let n := operandCount s.latch s.opcode
  let s := if 2 ≤ k ∧ k ≤ n + 1 then takeOperand k s else s
  if n < k then runStep (k - 1 - n) s
  else if k = 1 ∧ opcodeHold s.latch s.opcode ≠ 0 then requestOperand (holdFor (opcodeHold s.latch s.opcode) s)
  else requestOperand s

/-- One invocation, with the step counter already set (spec/20_memory.md R223). -/
def invokeStep (s : State) : State := if awaitsXyCb s.latch then invokeXyCb s else invokePlain s

end Sys2Proof.Machine
end

