-- ==== Sys2Proof/Machine/BusCycle.lean ====
section
/-! DEFINITION. The bus-cycle state machine, edge by edge (spec/20_memory.md R220 to R236). -/

namespace Sys2Proof.Machine

/-- A clock edge (spec/70_reset_and_hazards.md R850). -/
inductive Edge where
  | rising | falling
  deriving DecidableEq, Repr

/-! ### Lines and buses (R231, R232) -/

/-- Release RFSH if still asserted. -/
def releaseRefresh (s : State) : State := { s with pins := { s.pins with rfsh := false } }

/-- `float_data_bus()`. -/
def floatData (s : State) : State := { s with pins := { s.pins with data := none } }

/-- `set_address(a)`. -/
def driveAddress (a : Word) (s : State) : State :=
  { s with pins := { s.pins with addr := some a, addrDelayed := false } }

/-- `set_address_with_delay(a, REFRESH_DELAY)` (R234; log 20). -/
def driveRefreshAddress (a : Word) (s : State) : State :=
  { s with pins := { s.pins with addr := some a, addrDelayed := true } }

/-- `set_data(v)`. -/
def driveData (v : Byte) (s : State) : State := { s with pins := { s.pins with data := some v } }

/-- The cycle drives the data bus. -/
def writes (c : Cycle) : Bool :=
  match c with
  | .write | .ioWrite => true
  | .fetch | .read | .ioRead | .exec => false

/-- The release of RFSH and of the data bus on the first edge after a cycle (R225, R227, R229). -/
def releaseAfterCycle (s : State) : State :=
  let s := releaseRefresh s
  if writes s.seq.nextCycle then s else floatData s

/-! ### Cycles (R220) -/

/-- The last phase of a cycle: its base length in half-phases less one; EXEC of more than four T-states has the eight
phases of four (R220, R230). -/
def lastPhase (s : State) : Nat :=
  match s.seq.cycle with
  | .fetch => 7
  | .read => 5
  | .write => 5
  | .ioRead => 7
  | .ioWrite => 7
  | .exec => 2 * min s.seq.nextLen 4 - 1

/-- The phase actions of FETCH before the invocation (R225). -/
def fetchPhase (s : State) : State :=
  match s.seq.phase with
  | 0 =>
    let s := driveAddress s.regs.pc s
    { s with pins := { s.pins with m1 := true } }
  | 1 => { s with pins := { s.pins with mreq := true, rd := true } }
  | 4 =>
    let s := sampleMemory .fetch s.regs.pc 4 s
    let s := { s with pins := { s.pins with m1 := false, mreq := false, rd := false, rfsh := true } }
    driveRefreshAddress (mk16 s.regs.i s.regs.r) s
  | 5 => { s with pins := { s.pins with mreq := true } }
  | 7 => { s with pins := { s.pins with mreq := false }, seq := { s.seq with step := 1 } }
  | _ => s

/-- The phase actions of READ before the invocation (R226). -/
def readPhase (s : State) : State :=
  match s.seq.phase with
  | 0 => driveAddress s.seq.nextAddr s
  | 1 => { s with pins := { s.pins with mreq := true, rd := true } }
  | 5 =>
    let s := sampleMemory .read s.seq.nextAddr 3 s
    { s with pins := { s.pins with mreq := false, rd := false } }
  | _ => s

/-- The phase actions of WRITE before the invocation (R227); the platform takes the byte when WR is released (log 17). -/
def writePhase (s : State) : State :=
  match s.seq.phase with
  | 0 => driveAddress s.seq.nextAddr s
  | 1 =>
    let s := driveData s.seq.nextData s
    { s with pins := { s.pins with mreq := true } }
  | 3 => { s with pins := { s.pins with wr := true } }
  | 5 =>
    let s := storeMemory s.seq.nextAddr s.seq.nextData s
    { s with pins := { s.pins with mreq := false, wr := false } }
  | _ => s

/-- The phase actions of IOREAD before the invocation (R228). -/
def ioReadPhase (s : State) : State :=
  match s.seq.phase with
  | 0 => driveAddress s.seq.nextAddr s
  | 2 => { s with pins := { s.pins with iorq := true, rd := true } }
  | 7 =>
    let s := samplePort s.seq.nextAddr s
    { s with pins := { s.pins with iorq := false, rd := false } }
  | _ => s

/-- The phase actions of IOWRITE before the invocation (R229; log 17). -/
def ioWritePhase (s : State) : State :=
  match s.seq.phase with
  | 0 => driveAddress s.seq.nextAddr s
  | 1 => driveData s.seq.nextData s
  | 2 => { s with pins := { s.pins with iorq := true, wr := true } }
  | 7 =>
    let s := drivePort s.seq.nextAddr s.seq.nextData s
    { s with pins := { s.pins with iorq := false, wr := false } }
  | _ => s

/-- The actions of the phase just entered (R225 to R230). -/
def phaseActions (s : State) : State :=
  match s.seq.cycle with
  | .fetch => fetchPhase s
  | .read => readPhase s
  | .write => writePhase s
  | .ioRead => ioReadPhase s
  | .ioWrite => ioWritePhase s
  | .exec => s

/-- The cycle is over with its hold: the next edge starts the next cycle (R224), and `done` has been seen
(spec/40_step_machine.md R404). -/
def finishCycle (s : State) : State :=
  { s with seq := { s.seq with ended := true, hold := false, holdLeft := 0, done := false } }

/-- The step machine is invoked, after a FETCH with the step counter at 1, after another cycle with it one higher
(R223, spec/40_step_machine.md R401). -/
def invoke (s : State) : State :=
  let s := invokeStep s
  if s.seq.holdLeft = 0 then finishCycle s else s

/-- The step counter advances before the invocation that ends a cycle other than FETCH (spec/40_step_machine.md R401). -/
def countStep (s : State) : State :=
  match s.seq.cycle with
  | .fetch => s
  | .read | .write | .ioRead | .ioWrite | .exec => { s with seq := { s.seq with step := s.seq.step + 1 } }

/-- The end of an EXEC cycle (R230). -/
def endExec (s : State) : State := invoke (countStep (record .exec 0 0 s.seq.nextLen s))

/-- The phase is entered: its actions, and at the last one the invocation (R222, R223), or the tail of a long EXEC
cycle (R230). -/
def enterPhase (s : State) : State :=
  let s := phaseActions s
  if s.seq.phase = lastPhase s then
    if s.seq.cycle = .exec then
      if 4 < s.seq.nextLen then { s with seq := { s.seq with holdLeft := 2 * (s.seq.nextLen - 4) } } else endExec s
    else invoke (countStep s)
  else s

/-- A new cycle at phase 0 (R222 (b)). A FETCH is at PC, the others at `next_addr`. -/
def startCycle (s : State) : State :=
  let s := releaseAfterCycle s
  enterPhase { s with seq := { s.seq with cycle := s.seq.nextCycle, phase := 0, ended := false } }

/-- One held half-phase (R221); when the last has gone, the tail of a long EXEC cycle ends in its invocation (R230), and
a hold a step asked for ends the cycle. -/
def heldEdge (s : State) : State :=
  let s := releaseAfterCycle s
  let s := { s with seq := { s.seq with holdLeft := s.seq.holdLeft - 1 } }
  if s.seq.holdLeft = 0 then
    if s.seq.hold then finishCycle s else endExec s
  else s

/-- The edge the machine moves on next: phases and held half-phases alternate, even ones rising (R220, R222). -/
def nextEdge (s : State) : Edge :=
  if 0 < s.seq.holdLeft then if s.seq.holdLeft % 2 = 0 then .rising else .falling
  else if s.seq.ended then .rising
  else if s.seq.phase % 2 = 0 then .falling else .rising

/-- A clock edge of an active, running core (R222). An edge out of turn does nothing (log 14). -/
def runningEdge (e : Edge) (s : State) : State :=
  if e = nextEdge s then
    if 0 < s.seq.holdLeft then heldEdge s
    else if s.seq.ended then startCycle s
    else enterPhase { s with seq := { s.seq with phase := s.seq.phase + 1 } }
  else s

/-- `tick(edge)` (R222, R235, R236, spec/70_reset_and_hazards.md R852). -/
def tick (e : Edge) (s : State) : State :=
  if s.resetLow then
    match e with
    | .rising => { s with resetCount := min (s.resetCount + 1) 3 }
    | .falling => s
  else if !s.active then s
  else if s.halted then floatData (releaseRefresh s)
  else runningEdge e s

/-- The edges in order, the first one first. -/
def ticks : List Edge → State → State
  | [], s => s
  | e :: es, s => ticks es (tick e s)

/-- As many edges as the machine takes to the next unit boundary, at most `fuel` (log 12). -/
def runToBoundary : Nat → State → State
  | 0, s => s
  | fuel + 1, s => if s.atBoundary || s.dormant then s else runToBoundary fuel (tick (nextEdge s) s)

/-- More edges than any unit takes: the longest takes 19 T-states (`EX (SP),HL`), 38 edges. -/
def unitFuel : Nat := 64

end Sys2Proof.Machine
end

