-- ==== Sys2Proof/Machine/Reset.lean ====
section
/-! DEFINITION. The RESET input and power-on (spec/70_reset_and_hazards.md R850 to R854). -/

namespace Sys2Proof.Machine

/-- A WRITE or IOWRITE cycle is under way and has not yet reached the platform (R851). -/
def writeInFlight (s : State) : Bool :=
  !s.dormant && writes s.seq.cycle && !s.seq.ended && !s.seq.hold && decide (s.seq.phase < lastPhase s)

/-- Whether the platform accepted the cycle cut short is a free value (R851, spec/93_implementation_defined.md I11;
log 6). -/
def cutShort (s : State) : State :=
  if writeInFlight s then
    let s' := { s with draws := s.draws + 1 }
    if Config.freeWriteLands s.draws then
      match s.seq.cycle with
      | .write => storeMemory s.seq.nextAddr s.seq.nextData s'
      | .ioWrite => drivePort s.seq.nextAddr s.seq.nextData s'
      | .fetch | .read | .ioRead | .exec => s'
    else s'
  else s

/-- The values of spec/10_state.md R120; the platform, the record, the free-value counter and the configuration are not
the core's state and stay. -/
def zeroed (s : State) : State :=
  { State.reset with
    mem := s.mem, ioIn := s.ioIn, ioTape := s.ioTape, memTape := s.memTape, bus := s.bus, draws := s.draws, cfg := s.cfg
    active := false, resetLow := false, resetCount := 0 }

/-- RESET goes from deasserted to asserted (R851). -/
def assertReset (s : State) : State := { zeroed (cutShort s) with resetLow := true }

/-- RESET goes from asserted to deasserted (R853). -/
def releaseReset (s : State) : State := { s with resetLow := false, active := decide (3 ≤ s.resetCount) }

/-- `reset(asserted)` (R850): a level; an unchanged level does nothing (log 27). -/
def setReset (asserted : Bool) (s : State) : State :=
  match s.resetLow, asserted with
  | false, true => assertReset s
  | true, false => releaseReset s
  | false, false => s
  | true, true => s

/-- The core at power-on, on a platform (R854; log 9). -/
def powerOn (s : State) : State := zeroed s

end Sys2Proof.Machine
end

