-- ==== Sys2Proof/Machine/Step.lean ====
section
/-! DEFINITION. One step of the machine at the instruction level (spec/20_memory.md R238; log 10 to log 13). -/

namespace Sys2Proof.Machine

/-- A dormant core stays as it is; an instruction that the edge-level machine has begun runs to its end; otherwise the
next unit is fetched and executed. -/
def step (s : State) : Host.Outcome State Fault Refusal :=
  if s.dormant then .next s
  else if s.atBoundary then exec (nextInstr s) (fetched s)
  else .next (runToBoundary unitFuel s)

/-- The instruction of a table word placed as the next unit (log 8, log 28). -/
def State.withFetchWord (s : State) (nbits w : Nat) : State := placeWord s nbits w

end Sys2Proof.Machine
end

