-- ==== Sys2Proof/WellFormed.lean ====
section
/-! DEFINITION. Which instructions an encoding exists for. Types exclude nearly everything; what is left is the
constraints of spec/opcode_table.json that relate a field to its neighbours. -/

namespace Sys2Proof

/-- The constraints of the instruction's row in spec/opcode_table.json (spec/30_encoding.md R311, R312, R320, R321). -/
def wellFormed (i : Instr) : Bool :=
  match i with
  | .nop => true
  | .exAfAf => true
  | .djnz _ => true
  | .jr _ => true
  | .jrCc _ _ => true
  | .ldRpNn _ _ => true
  | .addHlRp _ => true
  | .ldAtBcA => true
  | .ldAtDeA => true
  | .ldAtNnHl _ => true
  | .ldAtNnA _ => true
  | .ldAAtBc => true
  | .ldAAtDe => true
  | .ldHlAtNn _ => true
  | .ldAAtNn _ => true
  | .incRp _ => true
  | .decRp _ => true
  | .incR _ => true
  | .incAtHl => true
  | .decR _ => true
  | .decAtHl => true
  | .ldRN _ _ => true
  | .ldAtHlN _ => true
  | .rlca => true
  | .rrca => true
  | .rla => true
  | .rra => true
  | .daa => true
  | .cpl => true
  | .scf => true
  | .ccf => true
  | .ldRR _ _ => true
  | .ldRAtHl _ => true
  | .ldAtHlR _ => true
  | .halt => true
  | .addAR _ => true
  | .addAAtHl => true
  | .addAN _ => true
  | .adcAR _ => true
  | .adcAAtHl => true
  | .adcAN _ => true
  | .subR _ => true
  | .subAtHl => true
  | .subN _ => true
  | .sbcAR _ => true
  | .sbcAAtHl => true
  | .sbcAN _ => true
  | .andR _ => true
  | .andAtHl => true
  | .andN _ => true
  | .xorR _ => true
  | .xorAtHl => true
  | .xorN _ => true
  | .orR _ => true
  | .orAtHl => true
  | .orN _ => true
  | .cpR _ => true
  | .cpAtHl => true
  | .cpN _ => true
  | .retCc _ => true
  | .popRp2 _ => true
  | .ret => true
  | .exx => true
  | .jpHl => true
  | .ldSpHl => true
  | .jpCcNn _ _ => true
  | .jpNn _ => true
  | .cbPrefix => true
  | .outAtNA _ => true
  | .inAAtN _ => true
  | .exAtSpHl => true
  | .exDeHl => true
  | .di => true
  | .ei => true
  | .callCcNn _ _ => true
  | .pushRp2 _ => true
  | .callNn _ => true
  | .ddPrefix => true
  | .edPrefix => true
  | .fdPrefix => true
  | .rst _ => true
  | .rlcR _ => true
  | .rlcAtHl => true
  | .rrcR _ => true
  | .rrcAtHl => true
  | .rlR _ => true
  | .rlAtHl => true
  | .rrR _ => true
  | .rrAtHl => true
  | .slaR _ => true
  | .slaAtHl => true
  | .sraR _ => true
  | .sraAtHl => true
  | .sllR _ => true
  | .sllAtHl => true
  | .srlR _ => true
  | .srlAtHl => true
  | .bitR _ _ => true
  | .bitAtHl _ => true
  | .resR _ _ => true
  | .resAtHl _ => true
  | .setR _ _ => true
  | .setAtHl _ => true
  | .inRC _ => true
  | .inFlagsC => true
  | .outCR _ => true
  | .outC0 => true
  | .sbcHlRp _ => true
  | .adcHlRp _ => true
  | .ldAtNnRp _ _ => true
  | .ldRpAtNn _ _ => true
  | .neg _ => true
  | .retn y => y != 1
  | .reti => true
  | .im _ => true
  | .ldIA => true
  | .ldRA => true
  | .ldAI => true
  | .ldAR => true
  | .rrd => true
  | .rld => true
  | .nopEd _ => true
  | .ldi => true
  | .cpi => true
  | .ini => true
  | .outi => true
  | .ldd => true
  | .cpd => true
  | .ind => true
  | .outd => true
  | .ldir => true
  | .cpir => true
  | .inir => true
  | .otir => true
  | .lddr => true
  | .cpdr => true
  | .indr => true
  | .otdr => true
  | .noni op => edInvalid op
  | .addIxRp _ => true
  | .ldIxNn _ => true
  | .ldAtNnIx _ => true
  | .ldIxAtNn _ => true
  | .incIx => true
  | .decIx => true
  | .incIxHalf _ => true
  | .decIxHalf _ => true
  | .ldIxHalfN _ _ => true
  | .incAtIx _ => true
  | .decAtIx _ => true
  | .ldAtIxN _ _ => true
  | .ldRRIxHalves r r' => r == .h || r == .l || r' == .h || r' == .l
  | .ldRAtIx _ _ => true
  | .ldAtIxR _ _ => true
  | .addAIxHalf _ => true
  | .addAAtIx _ => true
  | .adcAIxHalf _ => true
  | .adcAAtIx _ => true
  | .subIxHalf _ => true
  | .subAtIx _ => true
  | .sbcAIxHalf _ => true
  | .sbcAAtIx _ => true
  | .andIxHalf _ => true
  | .andAtIx _ => true
  | .xorIxHalf _ => true
  | .xorAtIx _ => true
  | .orIxHalf _ => true
  | .orAtIx _ => true
  | .cpIxHalf _ => true
  | .cpAtIx _ => true
  | .popIx => true
  | .exAtSpIx => true
  | .pushIx => true
  | .jpIx => true
  | .ldSpIx => true
  | .ddCbPrefix => true
  | .ddNoEffect op => xyIneffective op
  | .rlcAtIx _ => true
  | .rlcAtIxR _ _ => true
  | .rrcAtIx _ => true
  | .rrcAtIxR _ _ => true
  | .rlAtIx _ => true
  | .rlAtIxR _ _ => true
  | .rrAtIx _ => true
  | .rrAtIxR _ _ => true
  | .slaAtIx _ => true
  | .slaAtIxR _ _ => true
  | .sraAtIx _ => true
  | .sraAtIxR _ _ => true
  | .sllAtIx _ => true
  | .sllAtIxR _ _ => true
  | .srlAtIx _ => true
  | .srlAtIxR _ _ => true
  | .bitAtIx _ _ _ => true
  | .resAtIx _ _ => true
  | .resAtIxR _ _ _ => true
  | .setAtIx _ _ => true
  | .setAtIxR _ _ _ => true
  | .addIyRp _ => true
  | .ldIyNn _ => true
  | .ldAtNnIy _ => true
  | .ldIyAtNn _ => true
  | .incIy => true
  | .decIy => true
  | .incIyHalf _ => true
  | .decIyHalf _ => true
  | .ldIyHalfN _ _ => true
  | .incAtIy _ => true
  | .decAtIy _ => true
  | .ldAtIyN _ _ => true
  | .ldRRIyHalves r r' => r == .h || r == .l || r' == .h || r' == .l
  | .ldRAtIy _ _ => true
  | .ldAtIyR _ _ => true
  | .addAIyHalf _ => true
  | .addAAtIy _ => true
  | .adcAIyHalf _ => true
  | .adcAAtIy _ => true
  | .subIyHalf _ => true
  | .subAtIy _ => true
  | .sbcAIyHalf _ => true
  | .sbcAAtIy _ => true
  | .andIyHalf _ => true
  | .andAtIy _ => true
  | .xorIyHalf _ => true
  | .xorAtIy _ => true
  | .orIyHalf _ => true
  | .orAtIy _ => true
  | .cpIyHalf _ => true
  | .cpAtIy _ => true
  | .popIy => true
  | .exAtSpIy => true
  | .pushIy => true
  | .jpIy => true
  | .ldSpIy => true
  | .fdCbPrefix => true
  | .fdNoEffect op => xyIneffective op
  | .rlcAtIy _ => true
  | .rlcAtIyR _ _ => true
  | .rrcAtIy _ => true
  | .rrcAtIyR _ _ => true
  | .rlAtIy _ => true
  | .rlAtIyR _ _ => true
  | .rrAtIy _ => true
  | .rrAtIyR _ _ => true
  | .slaAtIy _ => true
  | .slaAtIyR _ _ => true
  | .sraAtIy _ => true
  | .sraAtIyR _ _ => true
  | .sllAtIy _ => true
  | .sllAtIyR _ _ => true
  | .srlAtIy _ => true
  | .srlAtIyR _ _ => true
  | .bitAtIy _ _ _ => true
  | .resAtIy _ _ => true
  | .resAtIyR _ _ _ => true
  | .setAtIy _ _ => true
  | .setAtIyR _ _ _ => true

/-- The instruction has an encoding. -/
abbrev WellFormed (i : Instr) : Prop := wellFormed i = true

end Sys2Proof
end

