-- ==== Sys2Proof/Safety.lean ====
section
/-! DEFINITION. What counts as a safe run, and the terms claims are stated in. -/

namespace Sys2Proof.Machine

/-- What a claim about an instruction compares: registers, memory, ports, prefix latch, core status, configuration and
the transactions made. Left out: WZ and the free-value counter (spec/10_state.md R112), and what only the edge-level
machine means (decode fields, progress, pins, EXEC cycles and lengths in T-states; spec/20_memory.md R238). -/
def State.arch (s : State) : State :=
  { s with
    regs := { s.regs with wz := 0 }
    fields := Fields.zero
    seq := Seq.zero
    pins := Pins.idle
    draws := 0
    bus := (s.bus.filter (fun e => e.kind != .exec)).map (fun e => { e with tStates := 0 }) }

/-- The state of a completed instruction: no prefix is latched (spec/40_step_machine.md R404). -/
def finished (s : State) : State := { s with latch := .none }

/-- Memory after one byte is stored. -/
def storedByte (before after : Memory) (a : Word) (v : Byte) : Prop :=
  ∀ x, after.read x = if x = a then v else before.read x

/-- Memory after a pair is stored, its low byte at `a` and its high byte at `a +16 1` (spec/20_memory.md R204). -/
def storedPair (before after : Memory) (a v : Word) : Prop :=
  ∀ x, after.read x = if x = a then lo8 v else if x = a + 1 then hi8 v else before.read x

/-- The five operand forms of `alu[y]` (spec/43_alu8.md R550). -/
inductive AluForm where
  | register (r : R8)
  | immediate (n : Byte)
  | atHl
  | half (xy : XY) (half : Half)
  | indexed (xy : XY) (d : Byte)
  deriving DecidableEq, Repr

/-- The platform's answer at an address taken and its READ recorded (spec/20_memory.md R200, R233). -/
def readBy (addr : Word) (s : State) : State :=
  record .read addr (memAnswer addr s) 3 (advanceMem s)

/-- The instruction `alu[y]` in a form. -/
def AluForm.instr (form : AluForm) (y : BitVec 3) : Instr :=
  match form with
  | .register r => aluRegister y r
  | .immediate n => aluImmediate y n
  | .atHl => aluMemory y
  | .half xy k => aluHalf xy y k
  | .indexed xy d => aluIndexed xy y d

/-- The operand `v` (spec/43_alu8.md R550). -/
def AluForm.operand (form : AluForm) (s : State) : Byte :=
  match form with
  | .register r => getR r s
  | .immediate n => n
  | .atHl => memAnswer s.hl s
  | .half xy k => getHalf xy k s
  | .indexed xy d => memAnswer (indexAddress xy d s) s

/-- The state with the form's own READ of its operand recorded; the READ of `n` or `d` belongs to the fetch. -/
def AluForm.readBy (form : AluForm) (s : State) : State :=
  match form with
  | .register _ | .immediate _ | .half _ _ => s
  | .atHl => Machine.readBy s.hl s
  | .indexed xy d => Machine.readBy (indexAddress xy d s) s

/-- The forms of an 8-bit register operand: `r[y]`, or `XH`/`XL` under a prefix (spec/43_alu8.md R559). -/
inductive ByteReg where
  | main (r : R8)
  | half (xy : XY) (half : Half)
  deriving DecidableEq, Repr

/-- The register's value. -/
def ByteReg.get (g : ByteReg) (s : State) : Byte :=
  match g with
  | .main r => getR r s
  | .half xy k => getHalf xy k s

/-- The register written. -/
def ByteReg.set (g : ByteReg) (v : Byte) (s : State) : State :=
  match g with
  | .main r => setR r v s
  | .half xy k => setHalf xy k v s

/-- `INC` of the register. -/
def ByteReg.inc (g : ByteReg) : Instr :=
  match g with
  | .main r => .incR r
  | .half xy k => pick xy (.incIxHalf k) (.incIyHalf k)

/-- `DEC` of the register. -/
def ByteReg.dec (g : ByteReg) : Instr :=
  match g with
  | .main r => .decR r
  | .half xy k => pick xy (.decIxHalf k) (.decIyHalf k)

/-- `LD g,n`. -/
def ByteReg.loadImmediate (g : ByteReg) (n : Byte) : Instr :=
  match g with
  | .main r => .ldRN r n
  | .half xy k => pick xy (.ldIxHalfN k n) (.ldIyHalfN k n)

/-- The memory operand `(HL)` or `(X+d)` (spec/30_encoding.md R320). -/
inductive ByteAt where
  | hl
  | indexed (xy : XY) (d : Byte)
  deriving DecidableEq, Repr

/-- The operand's address. -/
def ByteAt.addr (g : ByteAt) (s : State) : Word :=
  match g with
  | .hl => s.hl
  | .indexed xy d => indexAddress xy d s

/-- The value of the operand. -/
def ByteAt.value (g : ByteAt) (s : State) : Byte := memAnswer (g.addr s) s

/-- `INC` of the operand. -/
def ByteAt.inc (g : ByteAt) : Instr :=
  match g with
  | .hl => .incAtHl
  | .indexed xy d => pick xy (.incAtIx d) (.incAtIy d)

/-- `DEC` of the operand. -/
def ByteAt.dec (g : ByteAt) : Instr :=
  match g with
  | .hl => .decAtHl
  | .indexed xy d => pick xy (.decAtIx d) (.decAtIy d)

/-- `LD r,(g)`. -/
def ByteAt.load (g : ByteAt) (r : R8) : Instr :=
  match g with
  | .hl => .ldRAtHl r
  | .indexed xy d => pick xy (.ldRAtIx r d) (.ldRAtIy r d)

/-- `LD (g),r`. -/
def ByteAt.store (g : ByteAt) (r : R8) : Instr :=
  match g with
  | .hl => .ldAtHlR r
  | .indexed xy d => pick xy (.ldAtIxR d r) (.ldAtIyR d r)

/-- `LD (g),n`. -/
def ByteAt.storeImmediate (g : ByteAt) (n : Byte) : Instr :=
  match g with
  | .hl => .ldAtHlN n
  | .indexed xy d => pick xy (.ldAtIxN d n) (.ldAtIyN d n)

/-- `rot[y]` of the operand without a copy. -/
def ByteAt.rotate (g : ByteAt) (y : BitVec 3) : Instr :=
  match g with
  | .hl => rotMemory y
  | .indexed xy d => rotIndexed xy y d

/-- `BIT b` of the operand; `z` is the field that the DDCB/FDCB form ignores. -/
def ByteAt.bit (g : ByteAt) (b z : BitVec 3) : Instr :=
  match g with
  | .hl => .bitAtHl b
  | .indexed xy d => pick xy (.bitAtIx b d z) (.bitAtIy b d z)

/-- `RES b` of the operand, or `SET b`, without a copy. -/
def ByteAt.resOrSet (g : ByteAt) (set : Bool) (b : BitVec 3) : Instr :=
  match g, set with
  | .hl, false => .resAtHl b
  | .hl, true => .setAtHl b
  | .indexed xy d, false => pick xy (.resAtIx b d) (.resAtIy b d)
  | .indexed xy d, true => pick xy (.setAtIx b d) (.setAtIy b d)

/-- A read of the operand and then a write of it recorded. -/
def ByteAt.rewrittenBy (g : ByteAt) (v : Byte) (s : State) : State :=
  record .write (g.addr s) v 3 (readBy (g.addr s) s)

/-- A register pair of the 16-bit instructions: `rp[p]`, or `X` under a prefix. -/
inductive PairReg where
  | main (rp : RP)
  | index (xy : XY)
  deriving DecidableEq, Repr

/-- The pair's value. -/
def PairReg.get (g : PairReg) (s : State) : Word :=
  match g with
  | .main rp => getRp rp s
  | .index xy => getX xy s

/-- The pair written. -/
def PairReg.set (g : PairReg) (v : Word) (s : State) : State :=
  match g with
  | .main rp => setRp rp v s
  | .index xy => setX xy v s

/-- `INC` of the pair. -/
def PairReg.inc (g : PairReg) : Instr :=
  match g with
  | .main rp => .incRp rp
  | .index xy => pick xy .incIx .incIy

/-- `DEC` of the pair. -/
def PairReg.dec (g : PairReg) : Instr :=
  match g with
  | .main rp => .decRp rp
  | .index xy => pick xy .decIx .decIy

/-- `LD g,nn`. -/
def PairReg.loadImmediate (g : PairReg) (nn : Word) : Instr :=
  match g with
  | .main rp => .ldRpNn rp nn
  | .index xy => pick xy (.ldIxNn nn) (.ldIyNn nn)

/-- `LD g,(nn)`; the ED form for a main pair. -/
def PairReg.load (g : PairReg) (nn : Word) : Instr :=
  match g with
  | .main rp => .ldRpAtNn rp nn
  | .index xy => pick xy (.ldIxAtNn nn) (.ldIyAtNn nn)

/-- `LD (nn),g`; the ED form for a main pair. -/
def PairReg.store (g : PairReg) (nn : Word) : Instr :=
  match g with
  | .main rp => .ldAtNnRp rp nn
  | .index xy => pick xy (.ldAtNnIx nn) (.ldAtNnIy nn)

/-- A pair of PUSH and POP: `rp2[p]`, or `X` under a prefix (spec/45_stack_control.md R620). -/
inductive StackReg where
  | main (rp2 : RP2)
  | index (xy : XY)
  deriving DecidableEq, Repr

/-- The pair's value. -/
def StackReg.get (g : StackReg) (s : State) : Word :=
  match g with
  | .main rp2 => getRp2 rp2 s
  | .index xy => getX xy s

/-- The pair written. -/
def StackReg.set (g : StackReg) (v : Word) (s : State) : State :=
  match g with
  | .main rp2 => setRp2 rp2 v s
  | .index xy => setX xy v s

/-- `PUSH` of the pair. -/
def StackReg.push (g : StackReg) : Instr :=
  match g with
  | .main rp2 => .pushRp2 rp2
  | .index xy => pick xy .pushIx .pushIy

/-- `POP` of the pair. -/
def StackReg.pop (g : StackReg) : Instr :=
  match g with
  | .main rp2 => .popRp2 rp2
  | .index xy => pick xy .popIx .popIy

/-- The two WRITEs of a push recorded in `PUSH_ORDER` (spec/20_memory.md R205). -/
def pushedBy (v : Word) (s : State) : State :=
  let low := record .write (s.regs.sp - 2) (lo8 v) 3
  let high := record .write (s.regs.sp - 1) (hi8 v) 3
  match s.cfg.pushOrder with
  | .lowFirst => high (low s)
  | .highFirst => low (high s)

/-- The two READs of a pop recorded, and what they read (spec/20_memory.md R205). -/
def poppedBy (s : State) : State :=
  readBy (s.regs.sp + 1) (readBy s.regs.sp s)

/-- The platform's answer at a port taken and its IOREAD recorded (spec/20_memory.md R203). -/
def answeredBy (port : Word) (s : State) : State :=
  record .ioRead port (portAnswer port s) 4 { s with ioTape := s.ioTape.tail }

/-- `hi:lo` at the top of the stack, as two reads answer it. -/
def State.top (s : State) : Word :=
  mk16 (memAnswer (s.regs.sp + 1) (readBy s.regs.sp s)) (memAnswer s.regs.sp s)

/-- The transactions of `EX (SP),HL` recorded: two READs, then two WRITEs in `PUSH_ORDER`
(spec/47_exchange_block.md R723). -/
def exchangedBy (v : Word) (s : State) : State :=
  let low := record .write s.regs.sp (lo8 v) 3
  let high := record .write (s.regs.sp + 1) (hi8 v) 3
  match s.cfg.pushOrder with
  | .lowFirst => high (low (poppedBy s))
  | .highFirst => low (high (poppedBy s))

/-- The result of `rot[y]`, bit by bit where the carry enters (the table of spec/41_flag_alu_engine.md R459). -/
def rotated (y : BitVec 3) (v : Byte) (cin : Bool) : Byte :=
  let c : Byte := if cin then 1 else 0
  match y.toNat with
  | 0 => v.rotateLeft 1
  | 1 => v.rotateRight 1
  | 2 => v + v + c
  | 3 => BitVec.ofNat 8 (v.toNat / 2 + 128 * cin.toNat)
  | 4 => v + v
  | 5 => v.sshiftRight 1
  | 6 => v + v + 1
  | _ => BitVec.ofNat 8 (v.toNat / 2)

/-- The bit `rot[y]` carries out: bit 7 of a left operation, bit 0 of a right one (R459). -/
def rotatedOut (y : BitVec 3) (v : Byte) : Bool := if y.toNat % 2 = 0 then v.getLsbD 7 else v.getLsbD 0

/-- The number of set bits is even (spec/00_scope.md R12). -/
def evenBits (v : Byte) : Bool := (List.range 8).countP (fun k => v.getLsbD k) % 2 == 0

/-- The flags every full-set function takes from its result: S, Z, Y and X (spec/41_flag_alu_engine.md R451). -/
def resultFlags (f res : Byte) : Prop :=
  flagS f = res.getLsbD 7 ∧ flagZ f = decide (res.toNat = 0) ∧ flagY f = res.getLsbD 5 ∧ flagX f = res.getLsbD 3

/-- The half-carry of an 8-bit operation under `H_MODE` (spec/41_flag_alu_engine.md R452). -/
def halfCarry (cfg : Config) (part : Bool) : Bool := decide (cfg.hMode = .part) && part

/-- F and G agree on S, Z and PV. -/
def sameSZPV (f g : Byte) : Prop := flagS f = flagS g ∧ flagZ f = flagZ g ∧ flagPV f = flagPV g

/-- An invariant of the machine: memory is in its canonical form; IFF1 and IFF2 are 0 (spec/10_state.md R110); the reset
counter is at most 3 (spec/70_reset_and_hazards.md R852); a halted core has no instruction in progress
(spec/10_state.md R121). -/
def State.Inv (s : State) : Prop :=
  s.mem.wf = true ∧ s.regs.iff1 = false ∧ s.regs.iff2 = false ∧ s.resetCount ≤ 3
    ∧ (s.halted = true → s.seq.step = 0 ∧ s.latch = .none)

/-- A step that stops with neither a fault nor a refusal: the only kind the spec allows (spec/60_exceptions.md R800). -/
def SafeStep (s : State) : Prop := ∃ t, step s = .next t

end Sys2Proof.Machine
end

