-- ==== Sys2Proof/Certificates/Slice0/Obligations.lean ====
section
/-! DEFINITION. The statements for the provers (OBLIGATIONS.json). A statement about an instruction's meaning gives the
whole architectural state after it (`State.arch`), so that whatever it does not name is unchanged; where the
instruction stores to memory, memory is given byte by byte beside it. -/

section

open Sys2Proof Sys2Proof.Machine

/-! ### A step, the fetch, and the decoder -/

/-- One step of a running core at a unit boundary is the meaning of the unit decoded at PC (or, after a DDCB/FDCB
prefix, at the requested address and at PC), in the state with its bytes fetched (spec/40_step_machine.md R400,
R410). That a prefix byte is a unit of its own is the model's choice (log 10). -/
def Obligations.StepRunsDecodedUnit : Prop :=
  ∀ (s : State) (i : Instr), s.dormant = false → s.atBoundary = true →
    (awaitsXyCb s.latch = false →
      decodeUnit s.latch (upcoming 0 s.regs.pc s) (upcoming 1 (s.regs.pc + 1) s) (upcoming 2 (s.regs.pc + 2) s) = i →
        step s = exec i (fetched s))
    ∧ (awaitsXyCb s.latch = true →
      decodeUnit s.latch (upcoming 0 s.seq.nextAddr s) (upcoming 1 s.regs.pc s) 0 = i → step s = exec i (fetched s))

/-- Where the platform answers the encoding of a well-formed instruction whose prefix is latched, the next step runs that
instruction. A lone 0xDD or 0xFD is the prefix with effect only when the byte after it is one that it changes (units:
log 10). -/
def Obligations.EncodedInstructionRuns : Prop :=
  ∀ (i : Instr) (s : State), WellFormed i → s.dormant = false → s.atBoundary = true → s.latch = latchOf i →
    (awaitsXyCb s.latch = false → ∀ k, k < (encodeUnit i ++ lookahead i).length →
      upcoming k (s.regs.pc + BitVec.ofNat 16 k) s = (encodeUnit i ++ lookahead i).getD k 0) →
    (awaitsXyCb s.latch = true →
      encodeUnit i = [upcoming 0 s.seq.nextAddr s, upcoming 1 s.regs.pc s]) →
    (i = .ddPrefix ∨ i = .fdPrefix → xyIneffective (upcoming 1 (s.regs.pc + 1) s) = false) →
      step s = exec i (fetched s)

/-- Fetching a unit that begins with a FETCH moves PC past its bytes, increments the low seven bits of R once and keeps
R's bit 7, leaves the operand bytes in WZ, makes one FETCH and then one READ per operand byte, and changes nothing
else. The two bytes of a DDCB/FDCB unit are READ, so that R is not incremented (spec/40_step_machine.md R416, R403,
R406, R410, spec/10_state.md R109). The model's choices: what a unit is (log 10); that a single operand byte goes
into Z, and of the two operand bytes `d n` the first into Z and the second into W (log 21). -/
def Obligations.FetchAdvances : Prop :=
  (∀ s : State, awaitsXyCb s.latch = false →
    let op := upcoming 0 s.regs.pc s
    let b1 := upcoming 1 (s.regs.pc + 1) s
    let b2 := upcoming 2 (s.regs.pc + 2) s
    let n := operandCount s.latch op
    let t := fetched s
    n ≤ 2
    ∧ t.arch = ({ s with
        regs := { s.regs with
          pc := s.regs.pc + 1 + BitVec.ofNat 16 n
          r := BitVec.ofNat 8 (128 * (s.regs.r.toNat / 128) + (s.regs.r.toNat + 1) % 128) }
        memTape := s.memTape.drop (1 + n)
        bus := ((if 2 ≤ n then [⟨.read, s.regs.pc + 2, b2, 0⟩] else [])
          ++ (if 1 ≤ n then [⟨.read, s.regs.pc + 1, b1, 0⟩] else [])
          ++ [⟨.fetch, s.regs.pc, op, 0⟩]) ++ s.bus } : State).arch
    ∧ (n = 1 → lo8 t.regs.wz = b1) ∧ (n = 2 → t.regs.wz = mk16 b2 b1)
    ∧ t.fields = fieldsOf op)
  ∧ (∀ s : State, awaitsXyCb s.latch = true →
    let d := upcoming 0 s.seq.nextAddr s
    let op := upcoming 1 s.regs.pc s
    let t := fetched s
    t.arch = ({ s with
        regs := { s.regs with pc := s.regs.pc + 1 }
        memTape := s.memTape.drop 2
        bus := [⟨.read, s.regs.pc, op, 0⟩, ⟨.read, s.seq.nextAddr, d, 0⟩] ++ s.bus } : State).arch
    ∧ lo8 t.regs.wz = d ∧ t.fields = fieldsOf op)

/-- From a unit boundary a running core reaches a unit boundary: no step stops and none leaves a unit half done
(spec/20_memory.md R224). -/
def Obligations.UnitsEndAtBoundary : Prop :=
  ∀ s : State, s.dormant = false → s.atBoundary = true → ∃ t, step s = .next t ∧ t.atBoundary = true

/-- The edge-level machine and the instruction-level step agree: running the clock edges of a unit, from its first
rising edge to the next boundary, gives what the step gives: the same registers, memory, ports, latch, status and
transactions in the same order (spec/40_step_machine.md R411, spec/20_memory.md R238). A written byte lands when WR is
released (log 17). -/
def Obligations.EdgesRefineStep : Prop :=
  ∀ s : State, s.dormant = false → s.resetLow = false → s.atBoundary = true →
    ∃ t, step s = .next t ∧ t.arch = (runToBoundary unitFuel (tick .rising s)).arch

/-- Words of the opcode table, written out from its bit patterns, decode to their instructions: byte `k` of an
instruction is bits `8k+7` to `8k` (log 23). -/
def Obligations.DecodesTableWords : Prop :=
  decodeTableWord 8 0b01111000 = some (.ldRR .a .b)
  ∧ decodeTableWord 24 0b00010010_00110100_00000001 = some (.ldRpNn .bc 0x1234)
  ∧ decodeTableWord 8 0b10000110 = some .addAAtHl
  ∧ decodeTableWord 8 0b00111001 = some (.addHlRp .sp)
  ∧ decodeTableWord 16 0b11111110_00111000 = some (.jrCc .c 0xFE)
  ∧ decodeTableWord 16 0b01111110_11001011 = some (.bitAtHl 7)
  ∧ decodeTableWord 32 0b11000111_00000101_11001011_11011101 = some (.setAtIxR 0 5 .a)
  ∧ decodeTableWord 16 0b10110000_11101101 = some .ldir
  ∧ decodeTableWord 16 0b01111000_11101101 = some (.inRC .a)
  ∧ decodeTableWord 16 0b01001101_11101101 = some .reti
  ∧ decodeTableWord 16 0b00100101_11111101 = some (.decIyHalf .hi)
  ∧ decodeTableWord 8 0b01110110 = some .halt

/-- Decoding the encoding of a well-formed instruction gives it back, whatever follows it; of a prefix byte, when
nothing follows (spec/30_encoding.md R300, R301, R305). `DD/FD CB d op` has 4 bytes (log 29). -/
def Obligations.DecodeOfEncode : Prop :=
  ∀ (i : Instr) (rest : List Byte), WellFormed i → (prefixLatch i = none ∨ rest = []) →
    decode (encode i ++ rest) = .ok (i, lookahead i ++ rest)

/-- Every byte sequence is a unit under every latch: it decodes to a well-formed instruction whose encoding is those
bytes, as many as the unit has (spec/30_encoding.md R324, R325). That `DD/FD CB d op` has 4 bytes is the model's
reading (log 29). -/
def Obligations.EncodeOfDecode : Prop :=
  ∀ (l : Latch) (b0 b1 b2 : Byte),
    WellFormed (decodeUnit l b0 b1 b2)
    ∧ encodeUnit (decodeUnit l b0 b1 b2) = [b0, b1, b2].take (1 + operandCount l b0)

/-! ### Loads (spec/42_load.md) -/

/-- `LD r,n` (also of an index half) and `LD r,r'` (also under a prefix, where H and L are the halves of the index
register). -/
def Obligations.LoadRegister : Prop :=
  (∀ (g : ByteReg) (n : Byte) (s : State), ∃ t, exec (g.loadImmediate n) s = .next t ∧ t.arch = (finished (g.set n s)).arch)
  ∧ (∀ (r r' : R8) (s : State), ∃ t, exec (.ldRR r r') s = .next t ∧ t.arch = (finished (setR r (getR r' s) s)).arch)
  ∧ (∀ (xy : XY) (r r' : R8) (s : State),
      ∃ t, exec (pick xy (.ldRRIxHalves r r') (.ldRRIyHalves r r')) s = .next t
        ∧ t.arch = (finished (setRX xy r (getRX xy r' s) s)).arch)

/-- Loads of a byte from memory: `LD r,(HL)`, `LD r,(X+d)`, `LD A,(BC)`, `LD A,(DE)`, `LD A,(nn)`. The byte
is what the platform answers, which need not be the byte last written (spec/20_memory.md R200); memory is only read. -/
def Obligations.LoadFromMemory : Prop :=
  let loads (i : Instr) (r : R8) (a : Word) (s : State) : Prop :=
    ∃ t, exec i s = .next t ∧ t.arch = (finished (setR r (memAnswer a s) (readBy a s))).arch
  (∀ (g : ByteAt) (r : R8) (s : State), loads (g.load r) r (g.addr s) s)
  ∧ (∀ s : State, loads .ldAAtBc .a s.bc s) ∧ (∀ s : State, loads .ldAAtDe .a s.de s)
  ∧ (∀ (nn : Word) (s : State), loads (.ldAAtNn nn) .a nn s)

/-- Stores of a byte: `LD (HL),r`, `LD (X+d),r`, `LD (HL),n`, `LD (X+d),n`, `LD (BC),A`, `LD (DE),A`, `LD (nn),A`. Every
other byte of memory is unchanged. -/
def Obligations.StoreByte : Prop :=
  let stores (i : Instr) (a : Word) (v : Byte) (s : State) : Prop :=
    ∃ t, exec i s = .next t
      ∧ ({ t with mem := s.mem } : State).arch = (finished (record .write a v 3 s)).arch
      ∧ storedByte s.mem t.mem a v
  (∀ (g : ByteAt) (r : R8) (s : State), stores (g.store r) (g.addr s) (getR r s) s)
  ∧ (∀ (g : ByteAt) (n : Byte) (s : State), stores (g.storeImmediate n) (g.addr s) n s)
  ∧ (∀ s : State, stores .ldAtBcA s.bc s.regs.a s) ∧ (∀ s : State, stores .ldAtDeA s.de s.regs.a s)
  ∧ (∀ (nn : Word) (s : State), stores (.ldAtNnA nn) nn s.regs.a s)

/-- `LD I,A` and `LD R,A` write the register and no flag; `LD A,I` and `LD A,R` also set the flags, PV from IFF2 (R514
to R517). -/
def Obligations.LoadInterruptRefresh : Prop :=
  ∀ s : State,
    (∃ t, exec .ldIA s = .next t ∧ t.arch = (finished (setI s.regs.a s)).arch)
    ∧ (∃ t, exec .ldRA s = .next t ∧ t.arch = (finished (setRefresh s.regs.a s)).arch)
    ∧ (let reads (i : Instr) (v : Byte) : Prop :=
        ∃ t f, exec i s = .next t ∧ t.arch = (finished (setR .a v (setF f s))).arch
          ∧ resultFlags f v ∧ flagH f = false ∧ flagN f = false ∧ flagPV f = s.regs.iff2
          ∧ flagC f = flagC s.regs.f
       reads .ldAI s.regs.i ∧ reads .ldAR s.regs.r)

/-- The 16-bit loads into a register: `LD rp,nn`, `LD rp,(nn)`, both also of an index register, the short `LD HL,(nn)`,
and `LD SP,HL/IX/IY`. The low byte is read first, at the lower address (R518 to R520, R523). -/
def Obligations.LoadPair : Prop :=
  let loads (i : Instr) (g : PairReg) (nn : Word) (s : State) : Prop :=
    let lo := memAnswer nn s
    let hi := memAnswer (nn + 1) (readBy nn s)
    ∃ t, exec i s = .next t ∧ t.arch = (finished (g.set (mk16 hi lo) (readBy (nn + 1) (readBy nn s)))).arch
  (∀ (g : PairReg) (nn : Word) (s : State), ∃ t, exec (g.loadImmediate nn) s = .next t ∧ t.arch = (finished (g.set nn s)).arch)
  ∧ (∀ (g : PairReg) (nn : Word) (s : State), loads (g.load nn) g nn s)
  ∧ (∀ (nn : Word) (s : State), loads (.ldHlAtNn nn) (.main .hl) nn s)
  ∧ (∀ s : State, ∃ t, exec .ldSpHl s = .next t ∧ t.arch = (finished (setSp s.hl s)).arch)
  ∧ (∀ (xy : XY) (s : State),
      ∃ t, exec (pick xy .ldSpIx .ldSpIy) s = .next t ∧ t.arch = (finished (setSp (getX xy s) s)).arch)

/-- The 16-bit stores `LD (nn),rp`, also of an index register, and the short `LD (nn),HL`: the low byte at `nn`, the
high byte at `nn +16 1`, every other byte unchanged (R521, R522, spec/20_memory.md R204). -/
def Obligations.StorePair : Prop :=
  let stores (i : Instr) (nn v : Word) (s : State) : Prop :=
    ∃ t, exec i s = .next t
      ∧ ({ t with mem := s.mem } : State).arch
          = (finished (record .write (nn + 1) (hi8 v) 3 (record .write nn (lo8 v) 3 s))).arch
      ∧ storedPair s.mem t.mem nn v
  (∀ (g : PairReg) (nn : Word) (s : State), stores (g.store nn) nn (g.get s) s)
  ∧ (∀ (nn : Word) (s : State), stores (.ldAtNnHl nn) nn s.hl s)

/-! ### 8-bit arithmetic and logic (spec/43_alu8.md, spec/41_flag_alu_engine.md) -/

/-- `ADD A,v` and `ADC A,v` in every operand form (R453, R551, R552). -/
def Obligations.AddAndAdc : Prop :=
  ∀ (form : AluForm) (withCarry : Bool) (s : State),
    let a := s.regs.a
    let v := form.operand s
    let cin := withCarry && flagC s.regs.f
    let r := a.toNat + v.toNat + cin.toNat
    let res := BitVec.ofNat 8 r
    ∃ t f, exec (form.instr (if withCarry then 1 else 0)) s = .next t
      ∧ t.arch = (finished (setR .a res (setF f (form.readBy s)))).arch
      ∧ resultFlags f res ∧ flagN f = false ∧ flagC f = decide (255 < r)
      ∧ flagPV f = (a.getLsbD 7 == v.getLsbD 7 && res.getLsbD 7 != a.getLsbD 7)
      ∧ flagH f = halfCarry s.cfg (decide (15 < a.toNat % 16 + v.toNat % 16 + cin.toNat))

/-- `SUB v` and `SBC A,v` in every operand form (R454, R553, R554). -/
def Obligations.SubAndSbc : Prop :=
  ∀ (form : AluForm) (withBorrow : Bool) (s : State),
    let a := s.regs.a
    let v := form.operand s
    let cin := withBorrow && flagC s.regs.f
    let r : Int := (a.toNat : Int) - v.toNat - cin.toNat
    let res := BitVec.ofInt 8 r
    ∃ t f, exec (form.instr (if withBorrow then 3 else 2)) s = .next t
      ∧ t.arch = (finished (setR .a res (setF f (form.readBy s)))).arch
      ∧ resultFlags f res ∧ flagN f = true ∧ flagC f = decide (r < 0)
      ∧ flagPV f = (a.getLsbD 7 != v.getLsbD 7 && res.getLsbD 7 != a.getLsbD 7)
      ∧ flagH f = halfCarry s.cfg (decide (a.toNat % 16 < v.toNat % 16 + cin.toNat))

/-- `AND v`, `XOR v` and `OR v` in every operand form; H is 1 for AND and 0 for the others in both modes of `H_MODE`
(R455, R555 to R557). -/
def Obligations.LogicOps : Prop :=
  ∀ (form : AluForm) (s : State),
    let claim (y : BitVec 3) (res : Byte) (h : Bool) : Prop :=
      ∃ t f, exec (form.instr y) s = .next t
        ∧ t.arch = (finished (setR .a res (setF f (form.readBy s)))).arch
        ∧ resultFlags f res ∧ flagPV f = evenBits res ∧ flagH f = h ∧ flagN f = false ∧ flagC f = false
    claim 4 (s.regs.a &&& form.operand s) true
      ∧ claim 5 (s.regs.a ^^^ form.operand s) false
      ∧ claim 6 (s.regs.a ||| form.operand s) false

/-- `CP v` in every operand form: the flags of the subtraction, Y and X under `CP_XY`, and A is not written (R456,
R558). -/
def Obligations.Compare : Prop :=
  ∀ (form : AluForm) (s : State),
    let a := s.regs.a
    let v := form.operand s
    let r : Int := (a.toNat : Int) - v.toNat
    let res := BitVec.ofInt 8 r
    let mirrored := match s.cfg.cpXy with | .result => res | .operand => v
    ∃ t f, exec (form.instr 7) s = .next t
      ∧ t.arch = (finished (setF f (form.readBy s))).arch
      ∧ flagS f = res.getLsbD 7 ∧ flagZ f = decide (a = v)
      ∧ flagY f = mirrored.getLsbD 5 ∧ flagX f = mirrored.getLsbD 3
      ∧ flagN f = true ∧ flagC f = decide (r < 0)
      ∧ flagPV f = (a.getLsbD 7 != v.getLsbD 7 && res.getLsbD 7 != a.getLsbD 7)
      ∧ flagH f = halfCarry s.cfg (decide (a.toNat % 16 < v.toNat % 16))

/-- `INC` and `DEC` of an 8-bit register or index half (R457, R458, R559, R562). -/
def Obligations.IncDecRegister : Prop :=
  ∀ (g : ByteReg) (s : State),
    let v := g.get s
    (∃ t f, exec g.inc s = .next t ∧ t.arch = (finished (g.set (v + 1) (setF f s))).arch
      ∧ resultFlags f (v + 1) ∧ flagPV f = decide (v = 0x7F) ∧ flagN f = false ∧ flagC f = flagC s.regs.f
      ∧ flagH f = halfCarry s.cfg (decide (v.toNat % 16 = 15)))
    ∧ (∃ t f, exec g.dec s = .next t ∧ t.arch = (finished (g.set (v - 1) (setF f s))).arch
      ∧ resultFlags f (v - 1) ∧ flagPV f = decide (v = 0x80) ∧ flagN f = true ∧ flagC f = flagC s.regs.f
      ∧ flagH f = halfCarry s.cfg (decide (v.toNat % 16 = 0)))

/-- `INC` and `DEC` of a byte of memory: a read, then a write of the result, and every other byte unchanged (R457, R458,
R560, R561, R563, R564). -/
def Obligations.IncDecMemory : Prop :=
  ∀ (g : ByteAt) (s : State),
    let v := g.value s
    (∃ t f, exec g.inc s = .next t
      ∧ ({ t with mem := s.mem } : State).arch = (finished (setF f (g.rewrittenBy (v + 1) s))).arch
      ∧ storedByte s.mem t.mem (g.addr s) (v + 1)
      ∧ resultFlags f (v + 1) ∧ flagPV f = decide (v = 0x7F) ∧ flagN f = false ∧ flagC f = flagC s.regs.f
      ∧ flagH f = halfCarry s.cfg (decide (v.toNat % 16 = 15)))
    ∧ (∃ t f, exec g.dec s = .next t
      ∧ ({ t with mem := s.mem } : State).arch = (finished (setF f (g.rewrittenBy (v - 1) s))).arch
      ∧ storedByte s.mem t.mem (g.addr s) (v - 1)
      ∧ resultFlags f (v - 1) ∧ flagPV f = decide (v = 0x80) ∧ flagN f = true ∧ flagC f = flagC s.regs.f
      ∧ flagH f = halfCarry s.cfg (decide (v.toNat % 16 = 0)))

/-- `DAA` (R465, R565). -/
def Obligations.DecimalAdjust : Prop :=
  ∀ s : State,
    let a := s.regs.a
    let f0 := s.regs.f
    let high := flagC f0 || decide (0x99 < a.toNat)
    let low := flagH f0 || decide (9 < a.toNat % 16)
    let diff : Nat := (if high then 0x60 else 0) + (if low then 0x06 else 0)
    let res : Byte := if flagN f0 then BitVec.ofInt 8 ((a.toNat : Int) - diff) else BitVec.ofNat 8 (a.toNat + diff)
    ∃ t f, exec .daa s = .next t ∧ t.arch = (finished (setR .a res (setF f s))).arch
      ∧ resultFlags f res ∧ flagPV f = evenBits res ∧ flagN f = flagN f0 ∧ flagC f = high
      ∧ flagH f = (if flagN f0 then flagH f0 && decide (a.toNat % 16 < 6) else decide (9 < a.toNat % 16))

/-- `CPL`, `NEG`, `SCF` and `CCF` (R466, R472, R566 to R569). Y and X of SCF and CCF are fixed only under `UNDOC_FLAGS =
VALUES`. -/
def Obligations.AccumulatorFlags : Prop :=
  ∀ s : State,
    let a := s.regs.a
    let f0 := s.regs.f
    (∃ t f, exec .cpl s = .next t ∧ t.arch = (finished (setR .a (~~~a) (setF f s))).arch
      ∧ sameSZPV f f0 ∧ flagC f = flagC f0 ∧ flagH f = true ∧ flagN f = true
      ∧ flagY f = !a.getLsbD 5 ∧ flagX f = !a.getLsbD 3)
    ∧ (∀ y : BitVec 3, ∃ t f, exec (.neg y) s = .next t ∧ t.arch = (finished (setR .a (0 - a) (setF f s))).arch
      ∧ resultFlags f (0 - a) ∧ flagN f = true ∧ flagC f = decide (a ≠ 0) ∧ flagPV f = decide (a = 0x80)
      ∧ flagH f = halfCarry s.cfg (decide (a.toNat % 16 ≠ 0)))
    ∧ (∃ t f, exec .scf s = .next t ∧ t.arch = (finished (setF f s)).arch
      ∧ sameSZPV f f0 ∧ flagC f = true ∧ flagH f = false ∧ flagN f = false
      ∧ (s.cfg.undocFlags = .values → flagY f = a.getLsbD 5 ∧ flagX f = a.getLsbD 3))
    ∧ (∃ t f, exec .ccf s = .next t ∧ t.arch = (finished (setF f s)).arch
      ∧ sameSZPV f f0 ∧ flagC f = !flagC f0 ∧ flagH f = flagC f0 ∧ flagN f = false
      ∧ (s.cfg.undocFlags = .values → flagY f = a.getLsbD 5 ∧ flagX f = a.getLsbD 3))

/-! ### 16-bit arithmetic (spec/44_arith16.md) -/

/-- `ADD HL,rp`, `ADD IX,rp` and `ADD IY,rp`; under a prefix HL is the index register as source too (R462, R600,
R603). -/
def Obligations.Add16 : Prop :=
  let adds (i : Instr) (put : Word → State → State) (a b : Word) (s : State) : Prop :=
    let r := a.toNat + b.toNat
    let res := BitVec.ofNat 16 r
    ∃ t f, exec i s = .next t ∧ t.arch = (finished (put res (setF f s))).arch
      ∧ sameSZPV f s.regs.f ∧ flagY f = res.getLsbD 13 ∧ flagX f = res.getLsbD 11 ∧ flagN f = false
      ∧ flagC f = decide (65535 < r) ∧ flagH f = decide (0x0FFF < a.toNat % 0x1000 + b.toNat % 0x1000)
  (∀ (rp : RP) (s : State), adds (.addHlRp rp) setHl s.hl (getRp rp s) s)
  ∧ (∀ (xy : XY) (rp : RP) (s : State),
      adds (pick xy (.addIxRp rp) (.addIyRp rp)) (setX xy) (getX xy s)
        (if rp = .hl then getX xy s else getRp rp s) s)

/-- `ADC HL,rp` and `SBC HL,rp` (R463, R464, R601, R602). -/
def Obligations.AdcSbc16 : Prop :=
  ∀ (rp : RP) (s : State),
    let a := s.hl
    let b := getRp rp s
    let cin := (flagC s.regs.f).toNat
    let claim (i : Instr) (res : Word) (n c h pv : Bool) : Prop :=
      ∃ t f, exec i s = .next t ∧ t.arch = (finished (setHl res (setF f s))).arch
        ∧ flagS f = res.getLsbD 15 ∧ flagZ f = decide (res.toNat = 0)
        ∧ flagY f = res.getLsbD 13 ∧ flagX f = res.getLsbD 11
        ∧ flagN f = n ∧ flagC f = c ∧ flagH f = h ∧ flagPV f = pv
    (let res := BitVec.ofNat 16 (a.toNat + b.toNat + cin)
     claim (.adcHlRp rp) res false (decide (65535 < a.toNat + b.toNat + cin))
       (decide (0x0FFF < a.toNat % 0x1000 + b.toNat % 0x1000 + cin))
       (a.getLsbD 15 == b.getLsbD 15 && res.getLsbD 15 != a.getLsbD 15))
    ∧ (let res := BitVec.ofInt 16 ((a.toNat : Int) - b.toNat - cin)
       claim (.sbcHlRp rp) res true (decide ((a.toNat : Int) - b.toNat - cin < 0))
         (decide (a.toNat % 0x1000 < b.toNat % 0x1000 + cin))
         (a.getLsbD 15 != b.getLsbD 15 && res.getLsbD 15 != a.getLsbD 15))

/-- `INC rr` and `DEC rr`, also of an index register: the pair steps modulo 2^16 and nothing else changes, no flag either
(R604, R605). -/
def Obligations.IncDecPair : Prop :=
  ∀ (g : PairReg) (s : State),
    (∃ t, exec g.inc s = .next t ∧ t.arch = (finished (g.set (BitVec.ofNat 16 ((g.get s).toNat + 1)) s)).arch)
    ∧ (∃ t, exec g.dec s = .next t ∧ t.arch = (finished (g.set (BitVec.ofNat 16 ((g.get s).toNat + 65535)) s)).arch)

/-! ### The stack and control transfer (spec/45_stack_control.md) -/

/-- `PUSH qq`, also of an index register: the low byte at SP-2, the high byte at SP-1, written in `PUSH_ORDER`, and SP
down by two. `POP qq`: two READs at SP and SP+1, and SP up by two; POP AF writes all of F (R620, R621,
spec/20_memory.md R205). -/
def Obligations.PushAndPop : Prop :=
  ∀ (g : StackReg) (s : State),
    (∃ t, exec g.push s = .next t
      ∧ ({ t with mem := s.mem } : State).arch = (finished (setSp (s.regs.sp - 2) (pushedBy (g.get s) s))).arch
      ∧ storedPair s.mem t.mem (s.regs.sp - 2) (g.get s))
    ∧ (∃ t, exec g.pop s = .next t ∧ t.arch = (finished (g.set s.top (setSp (s.regs.sp + 2) (poppedBy s)))).arch)

/-- A push of a pair followed by a pop of any pair restores the pair and SP, whatever happens between them to anything
but memory and SP (spec/20_memory.md R205), where the pop is answered from memory (an empty tape, log 2). -/
def Obligations.PushThenPop : Prop :=
  ∀ (g g' : StackReg) (s : State),
    ∃ t, exec g.push s = .next t
      ∧ ∀ u : State, u.mem = t.mem → u.memTape = [] → u.regs.sp = t.regs.sp →
        ∃ w, exec g'.pop u = .next w ∧ g'.get w = g.get s ∧ w.regs.sp = s.regs.sp ∧ w.mem = t.mem

/-- The conditions of `cc`, and the four that JR uses (spec/41_flag_alu_engine.md R470). -/
def Obligations.ConditionTable : Prop :=
  ∀ (cfg : Config) (f : Byte),
    Machine.cond cfg .nz f = !flagZ f ∧ Machine.cond cfg .z f = flagZ f
    ∧ Machine.cond cfg .nc f = !flagC f ∧ Machine.cond cfg .c f = flagC f
    ∧ Machine.cond cfg .po f = !flagPV f ∧ Machine.cond cfg .pe f = flagPV f
    ∧ (cfg.pmMode = .part → Machine.cond cfg .p f = !flagS f ∧ Machine.cond cfg .m f = flagS f)
    ∧ (∀ b set, cfg.pmMode = .source b set →
        (∀ cc, cc = .p ∨ cc = .m → Machine.cond cfg cc f = (f.getLsbD b == set)))
    ∧ jumpCondition .nz = .nz ∧ jumpCondition .z = .z ∧ jumpCondition .nc = .nc ∧ jumpCondition .c = .c

/-- `JP nn`, `JP cc,nn`, `JP (HL)`, `JP (IX)`, `JP (IY)`: PC takes the target, or, where the condition is false, nothing
happens; memory is not read. `JR e`, `JR cc,e` and `DJNZ e`: PC, already past the displacement, takes the signed sum;
DJNZ first decrements B and writes no flag (R622 to R627). -/
def Obligations.Jumps : Prop :=
  ∀ s : State,
    (∀ nn, ∃ t, exec (.jpNn nn) s = .next t ∧ t.arch = (finished (setPc nn s)).arch)
    ∧ (∀ cc nn, ∃ t, exec (.jpCcNn cc nn) s = .next t
        ∧ t.arch = (finished (if Machine.cond s.cfg cc s.regs.f then setPc nn s else s)).arch)
    ∧ (∃ t, exec .jpHl s = .next t ∧ t.arch = (finished (setPc s.hl s)).arch)
    ∧ (∀ xy, ∃ t, exec (pick xy .jpIx .jpIy) s = .next t ∧ t.arch = (finished (setPc (getX xy s) s)).arch)
    ∧ ∀ e : Byte,
      let target : Word := BitVec.ofInt 16 ((s.regs.pc.toNat : Int) + e.toInt)
      (∃ t, exec (.jr e) s = .next t ∧ t.arch = (finished (setPc target s)).arch)
      ∧ (∀ cc : JCC, ∃ t, exec (.jrCc cc e) s = .next t
          ∧ t.arch = (finished (if Machine.cond s.cfg (jumpCondition cc) s.regs.f then setPc target s else s)).arch)
      ∧ (∃ t, exec (.djnz e) s = .next t
          ∧ t.arch = (finished (setR .b (s.regs.b - 1) (if s.regs.b = 1 then s else setPc target s))).arch)

/-- `CALL nn`, `CALL cc,nn` and `RST p`: the address of the next instruction is pushed and PC takes the target; where the
condition is false nothing is pushed (R628, R629, R634). -/
def Obligations.Calls : Prop :=
  ∀ s : State,
    let calls (i : Instr) (target : Word) : Prop :=
      ∃ t, exec i s = .next t
        ∧ ({ t with mem := s.mem } : State).arch
            = (finished (setPc target (setSp (s.regs.sp - 2) (pushedBy s.regs.pc s)))).arch
        ∧ storedPair s.mem t.mem (s.regs.sp - 2) s.regs.pc
    (∀ nn, calls (.callNn nn) nn)
    ∧ (∀ cc nn, if Machine.cond s.cfg cc s.regs.f then calls (.callCcNn cc nn) nn
        else ∃ t, exec (.callCcNn cc nn) s = .next t ∧ t.arch = (finished s).arch)
    ∧ (∀ y : BitVec 3, calls (.rst y) (BitVec.ofNat 16 (8 * y.toNat)))

/-- `RET`, `RET cc`, `RETI` and `RETN`: PC is popped; RETI and RETN copy IFF2 to IFF1; where the condition is false
nothing is read and SP stays (R630 to R633). -/
def Obligations.Returns : Prop :=
  ∀ s : State,
    let returned := setPc s.top (setSp (s.regs.sp + 2) (poppedBy s))
    (∃ t, exec .ret s = .next t ∧ t.arch = (finished returned).arch)
    ∧ (∀ cc, ∃ t, exec (.retCc cc) s = .next t
        ∧ t.arch = (finished (if Machine.cond s.cfg cc s.regs.f then returned else s)).arch)
    ∧ (∃ t, exec .reti s = .next t
        ∧ t.arch = (finished { returned with regs := { returned.regs with iff1 := s.regs.iff2 } }).arch)
    ∧ (∀ y, ∃ t, exec (.retn y) s = .next t
        ∧ t.arch = (finished { returned with regs := { returned.regs with iff1 := s.regs.iff2 } }).arch)

/-- The T-states of conditional control flow: the operands are fetched either way, and a false condition ends the
instruction there (spec/40_step_machine.md R407). The lengths are those of the cycles after the fetch of the operands,
with a hold counted on the cycle it extends. -/
def Obligations.ConditionalCycles : Prop :=
  ∀ (s : State) (last : BusEvent) (before : List BusEvent), s.bus = last :: before →
    let takes (i : Instr) (ts : List Nat) : Prop :=
      ∃ t, exec i s = .next t ∧ t.bus.map BusEvent.tStates = ts.reverse ++ before.map BusEvent.tStates
    let n := last.tStates
    (∀ cc nn, takes (.jpCcNn cc nn) [n])
    ∧ (∀ cc nn, takes (.callCcNn cc nn) (if Machine.cond s.cfg cc s.regs.f then [n + 1, 3, 3] else [n]))
    ∧ (∀ cc e, takes (.jrCc cc e) (if Machine.cond s.cfg (jumpCondition cc) s.regs.f then [n, 5] else [n]))
    ∧ (∀ cc, takes (.retCc cc) (if Machine.cond s.cfg cc s.regs.f then [n + 1, 3, 3] else [n + 1]))
    ∧ (∀ e, takes (.djnz e) (if s.regs.b = 1 then [n] else [n, 5]))

/-! ### Rotates, shifts and bits (spec/46_rotate_bit.md) -/

/-- `RLCA`, `RRCA`, `RLA`, `RRA`: the reduced flag form (spec/41_flag_alu_engine.md R460; R670 to R673). -/
def Obligations.AccumulatorRotates : Prop :=
  ∀ s : State,
    let claim (i : Instr) (y : BitVec 3) : Prop :=
      let res := rotated y s.regs.a (flagC s.regs.f)
      ∃ t f, exec i s = .next t ∧ t.arch = (finished (setR .a res (setF f s))).arch
        ∧ sameSZPV f s.regs.f ∧ flagY f = res.getLsbD 5 ∧ flagX f = res.getLsbD 3
        ∧ flagH f = false ∧ flagN f = false ∧ flagC f = rotatedOut y s.regs.a
    claim .rlca 0 ∧ claim .rrca 1 ∧ claim .rla 2 ∧ claim .rra 3

/-- The eight CB rotates and shifts of a register: the full flag form, of A too (spec/41_flag_alu_engine.md R459; R675
to R682). -/
def Obligations.RotateRegister : Prop :=
  ∀ (y : BitVec 3) (r : R8) (s : State),
    let v := getR r s
    let res := rotated y v (flagC s.regs.f)
    ∃ t f, exec (rotRegister y r) s = .next t ∧ t.arch = (finished (setR r res (setF f s))).arch
      ∧ resultFlags f res ∧ flagPV f = evenBits res ∧ flagH f = false ∧ flagN f = false ∧ flagC f = rotatedOut y v

/-- The eight rotates and shifts of a byte of memory, and the DDCB/FDCB forms that also copy the result into a register,
where H and L are H and L (spec/41_flag_alu_engine.md R459, spec/30_encoding.md R322; R674 to R682). -/
def Obligations.RotateMemory : Prop :=
  let claim (i : Instr) (g : ByteAt) (y : BitVec 3) (s : State) (copy : Byte → State → State) : Prop :=
    let v := g.value s
    let res := rotated y v (flagC s.regs.f)
    ∃ t f, exec i s = .next t
      ∧ ({ t with mem := s.mem } : State).arch = (finished (copy res (setF f (g.rewrittenBy res s)))).arch
      ∧ storedByte s.mem t.mem (g.addr s) res
      ∧ resultFlags f res ∧ flagPV f = evenBits res ∧ flagH f = false ∧ flagN f = false ∧ flagC f = rotatedOut y v
  (∀ (g : ByteAt) (y : BitVec 3) (s : State), claim (g.rotate y) g y s (fun _ u => u))
  ∧ (∀ (xy : XY) (d : Byte) (y : BitVec 3) (r : R8) (s : State),
      claim (rotIndexedCopy xy y d r) (.indexed xy d) y s (setR r))

/-- `BIT b` of a register and of a byte of memory: nothing but F changes, and memory is only read
(spec/41_flag_alu_engine.md R461; R683). -/
def Obligations.BitTest : Prop :=
  let claim (i : Instr) (b : BitVec 3) (v : Byte) (s u : State) : Prop :=
    let tested := v.getLsbD b.toNat
    ∃ t f, exec i s = .next t ∧ t.arch = (finished (setF f u)).arch
      ∧ flagZ f = !tested ∧ flagPV f = !tested ∧ flagS f = (decide (b = 7) && tested)
      ∧ flagY f = v.getLsbD 5 ∧ flagX f = v.getLsbD 3 ∧ flagH f = true ∧ flagN f = false
      ∧ flagC f = flagC s.regs.f
  (∀ (b : BitVec 3) (r : R8) (s : State), claim (.bitR b r) b (getR r s) s s)
  ∧ (∀ (g : ByteAt) (b z : BitVec 3) (s : State),
      claim (g.bit b z) b (g.value s) s (readBy (g.addr s) s))

/-- `RES b` and `SET b`: the one bit, and no flag. A byte of memory is written even when the bit does not change; the
DDCB/FDCB forms may copy the result into a register, where H and L are H and L (R674, R684, R685). -/
def Obligations.ResAndSet : Prop :=
  let onRegister (i : Instr) (r : R8) (set : Bool) (b : BitVec 3) (s : State) : Prop :=
    ∃ t res, exec i s = .next t ∧ t.arch = (finished (setR r res s)).arch
      ∧ ∀ k, res.getLsbD k = if k = b.toNat then set else (getR r s).getLsbD k
  let onMemory (i : Instr) (g : ByteAt) (set : Bool) (b : BitVec 3) (s : State) (copy : Byte → State → State) : Prop :=
    ∃ t res, exec i s = .next t
      ∧ ({ t with mem := s.mem } : State).arch = (finished (copy res (g.rewrittenBy res s))).arch
      ∧ storedByte s.mem t.mem (g.addr s) res
      ∧ ∀ k, res.getLsbD k = if k = b.toNat then set else (g.value s).getLsbD k
  (∀ (r : R8) (b : BitVec 3) (s : State), onRegister (.resR b r) r false b s ∧ onRegister (.setR b r) r true b s)
  ∧ (∀ (g : ByteAt) (set : Bool) (b : BitVec 3) (s : State), onMemory (g.resOrSet set b) g set b s (fun _ u => u))
  ∧ (∀ (xy : XY) (b : BitVec 3) (d : Byte) (r : R8) (s : State),
      onMemory (pick xy (.resAtIxR b d r) (.resAtIyR b d r)) (.indexed xy d) false b s (setR r)
      ∧ onMemory (pick xy (.setAtIxR b d r) (.setAtIyR b d r)) (.indexed xy d) true b s (setR r))

/-- `RLD` and `RRD`: the three digits of A's low half and of the byte at HL turn; the flags are those of A, C kept
(R686, R687; spec/41_flag_alu_engine.md R471). -/
def Obligations.DigitRotates : Prop :=
  ∀ s : State,
    let a := s.regs.a.toNat
    let m := (memAnswer s.hl s).toNat
    let claim (i : Instr) (stored acc : Nat) : Prop :=
      let res := BitVec.ofNat 8 acc
      ∃ t f, exec i s = .next t
        ∧ ({ t with mem := s.mem } : State).arch
            = (finished (setR .a res (setF f (ByteAt.hl.rewrittenBy (BitVec.ofNat 8 stored) s)))).arch
        ∧ storedByte s.mem t.mem s.hl (BitVec.ofNat 8 stored)
        ∧ resultFlags f res ∧ flagPV f = evenBits res ∧ flagH f = false ∧ flagN f = false
        ∧ flagC f = flagC s.regs.f
    claim .rld (16 * (m % 16) + a % 16) (16 * (a / 16) + m / 16)
      ∧ claim .rrd (16 * (a % 16) + m / 16) (16 * (a / 16) + m % 16)

/-! ### Exchanges and blocks (spec/47_exchange_block.md) -/

/-- `EX DE,HL`, `EX AF,AF'` and `EXX` exchange whole contents (R720 to R722, spec/10_state.md R103). -/
def Obligations.Exchanges : Prop :=
  ∀ s : State,
    (∃ t, exec .exDeHl s = .next t ∧ t.arch = (finished (setDe s.hl (setHl s.de s))).arch)
    ∧ (∃ t, exec .exAfAf s = .next t
        ∧ t.arch = (finished (setAf s.regs.afShadow { s with regs := { s.regs with afShadow := s.af } })).arch)
    ∧ (∃ t, exec .exx s = .next t
        ∧ t.arch = (finished (setBc s.regs.bcShadow (setDe s.regs.deShadow (setHl s.regs.hlShadow
            { s with regs := { s.regs with bcShadow := s.bc, deShadow := s.de, hlShadow := s.hl } })))).arch)

/-- `EX (SP),HL`, `EX (SP),IX` and `EX (SP),IY`: two READs, then two WRITEs in `PUSH_ORDER`, SP unchanged (R723). -/
def Obligations.ExchangeStackTop : Prop :=
  let claim (i : Instr) (v : Word) (put : Word → State → State) (s : State) : Prop :=
    ∃ t, exec i s = .next t
      ∧ ({ t with mem := s.mem } : State).arch = (finished (put s.top (exchangedBy v s))).arch
      ∧ storedPair s.mem t.mem s.regs.sp v
  (∀ s : State, claim .exAtSpHl s.hl setHl s)
  ∧ (∀ (xy : XY) (s : State), claim (pick xy .exAtSpIx .exAtSpIy) (getX xy s) (setX xy) s)

/-- `LDI`, `LDD`, `LDIR`, `LDDR`: one byte moves, the pointers step, BC counts down, and a repeating form steps PC back
over its two bytes while BC is not 0 (R467, R724 to R727). -/
def Obligations.BlockLoad : Prop :=
  ∀ s : State,
    let v := memAnswer s.hl s
    let bc' := s.bc - 1
    let n := v + s.regs.a
    let claim (i : Instr) (inc : Word) (repeats : Bool) : Prop :=
      ∃ t f, exec i s = .next t
        ∧ ({ t with mem := s.mem } : State).arch
            = (finished (setF f (setHl (s.hl + inc) (setDe (s.de + inc) (setBc bc'
                (setPc (if repeats && bc' != 0 then s.regs.pc - 2 else s.regs.pc)
                  (record .write s.de v 3 (readBy s.hl s)))))))).arch
        ∧ storedByte s.mem t.mem s.de v
        ∧ flagPV f = decide (bc' ≠ 0) ∧ flagH f = false ∧ flagN f = false
        ∧ flagS f = flagS s.regs.f ∧ flagZ f = flagZ s.regs.f ∧ flagC f = flagC s.regs.f
        ∧ (s.cfg.undocFlags = .values → flagY f = n.getLsbD 1 ∧ flagX f = n.getLsbD 3)
    claim .ldi 1 false ∧ claim .ldd (-1) false ∧ claim .ldir 1 true ∧ claim .lddr (-1) true

/-- `CPI`, `CPD`, `CPIR`, `CPDR`: one byte is compared with A, HL steps, BC counts down, and a repeating form steps PC
back over its two bytes while BC is not 0 and the bytes differ (R468, R728 to R731). -/
def Obligations.BlockCompare : Prop :=
  ∀ s : State,
    let v := memAnswer s.hl s
    let bc' := s.bc - 1
    let a := s.regs.a
    let res := a - v
    let h := halfCarry s.cfg (decide (a.toNat % 16 < v.toNat % 16))
    let n := BitVec.ofInt 8 ((res.toNat : Int) - h.toNat)
    let claim (i : Instr) (inc : Word) (repeats : Bool) : Prop :=
      ∃ t f, exec i s = .next t
        ∧ t.arch = (finished (setF f (setHl (s.hl + inc) (setBc bc'
            (setPc (if repeats && bc' != 0 && a != v then s.regs.pc - 2 else s.regs.pc)
              (readBy s.hl s)))))).arch
        ∧ flagS f = res.getLsbD 7 ∧ flagZ f = decide (a = v) ∧ flagH f = h ∧ flagPV f = decide (bc' ≠ 0)
        ∧ flagN f = true ∧ flagC f = flagC s.regs.f
        ∧ (s.cfg.undocFlags = .values → flagY f = n.getLsbD 1 ∧ flagX f = n.getLsbD 3)
    claim .cpi 1 false ∧ claim .cpd (-1) false ∧ claim .cpir 1 true ∧ claim .cpdr (-1) true

/-! ### Input and output (spec/48_io.md) -/

/-- The simple input and output instructions: the port is `A:n` or `BC`; memory is not touched (R750 to R755,
spec/20_memory.md R203). What a port answers is the platform of log 2. -/
def Obligations.InOut : Prop :=
  ∀ s : State,
    let inFlags (f v : Byte) : Prop :=
      resultFlags f v ∧ flagPV f = evenBits v ∧ flagH f = false ∧ flagN f = false ∧ flagC f = flagC s.regs.f
    (∀ n, ∃ t, exec (.inAAtN n) s = .next t
      ∧ t.arch = (finished (setR .a (portAnswer (mk16 s.regs.a n) s) (answeredBy (mk16 s.regs.a n) s))).arch)
    ∧ (∀ r, ∃ t f, exec (.inRC r) s = .next t ∧ inFlags f (portAnswer s.bc s)
      ∧ t.arch = (finished (setR r (portAnswer s.bc s) (setF f (answeredBy s.bc s)))).arch)
    ∧ (∃ t f, exec .inFlagsC s = .next t ∧ inFlags f (portAnswer s.bc s)
      ∧ t.arch = (finished (setF f (answeredBy s.bc s))).arch)
    ∧ (∀ n, ∃ t, exec (.outAtNA n) s = .next t
      ∧ t.arch = (finished (record .ioWrite (mk16 s.regs.a n) s.regs.a 4 s)).arch)
    ∧ (∀ r, ∃ t, exec (.outCR r) s = .next t ∧ t.arch = (finished (record .ioWrite s.bc (getR r s) 4 s)).arch)
    ∧ (∃ t, exec .outC0 s = .next t ∧ t.arch = (finished (record .ioWrite s.bc 0 4 s)).arch)

/-- `INI`, `IND`, `INIR`, `INDR`: a byte goes from the port BC, B not yet decremented, to the byte at HL (R469, R756 to
R759). Under `UNDOC_FLAGS = DRAW` only Z is fixed. -/
def Obligations.BlockIn : Prop :=
  ∀ s : State,
    let v := portAnswer s.bc s
    let b' := s.regs.b - 1
    let claim (i : Instr) (inc : Word) (c' : Byte) (repeats : Bool) : Prop :=
      let k := v.toNat + c'.toNat
      ∃ t f, exec i s = .next t
        ∧ ({ t with mem := s.mem } : State).arch
            = (finished (setF f (setHl (s.hl + inc) (setR .b b'
                (setPc (if repeats && b' != 0 then s.regs.pc - 2 else s.regs.pc)
                  (record .write s.hl v 3 (answeredBy s.bc s))))))).arch
        ∧ storedByte s.mem t.mem s.hl v
        ∧ flagZ f = decide (b' = 0)
        ∧ (s.cfg.undocFlags = .values → resultFlags f b' ∧ flagN f = v.getLsbD 7 ∧ flagH f = decide (255 < k)
            ∧ flagC f = decide (255 < k) ∧ flagPV f = evenBits (BitVec.ofNat 8 (k % 8) ^^^ b'))
    claim .ini 1 (s.regs.c + 1) false ∧ claim .ind (-1) (s.regs.c - 1) false
      ∧ claim .inir 1 (s.regs.c + 1) true ∧ claim .indr (-1) (s.regs.c - 1) true

/-- `OUTI`, `OUTD`, `OTIR`, `OTDR`: the byte at HL goes to the port BC, B already decremented; `k` takes L after HL
steps (R469, R760 to R763). Under `UNDOC_FLAGS = DRAW` only Z is fixed. -/
def Obligations.BlockOut : Prop :=
  ∀ s : State,
    let v := memAnswer s.hl s
    let b' := s.regs.b - 1
    let claim (i : Instr) (inc : Word) (repeats : Bool) : Prop :=
      let k := v.toNat + (lo8 (s.hl + inc)).toNat
      ∃ t f, exec i s = .next t
        ∧ t.arch = (finished (setF f (setHl (s.hl + inc) (setR .b b'
            (setPc (if repeats && b' != 0 then s.regs.pc - 2 else s.regs.pc)
              (record .ioWrite (mk16 b' s.regs.c) v 4 (readBy s.hl s))))))).arch
        ∧ flagZ f = decide (b' = 0)
        ∧ (s.cfg.undocFlags = .values → resultFlags f b' ∧ flagN f = v.getLsbD 7 ∧ flagH f = decide (255 < k)
            ∧ flagC f = decide (255 < k) ∧ flagPV f = evenBits (BitVec.ofNat 8 (k % 8) ^^^ b'))
    claim .outi 1 false ∧ claim .outd (-1) false ∧ claim .otir 1 true ∧ claim .otdr (-1) true

/-! ### CPU control (spec/49_cpu_control.md) -/

/-- `NOP`, the two ED slots without an instruction and the invalid ED opcodes change nothing but the latch; `HALT` enters
the halted state (R780, R781, R787). Which ED opcodes are invalid is not said here; their number is log 31. -/
def Obligations.NoOperationsAndHalt : Prop :=
  ∀ s : State,
    (∃ t, exec .nop s = .next t ∧ t.arch = (finished s).arch)
    ∧ (∀ q, ∃ t, exec (.nopEd q) s = .next t ∧ t.arch = (finished s).arch)
    ∧ (∀ op, ∃ t, exec (.noni op) s = .next t ∧ t.arch = (finished s).arch)
    ∧ (∃ t, exec .halt s = .next t ∧ t.arch = (finished { s with halted := true }).arch)

/-- `DI`, `EI` and `IM`: the unimplemented-opcode outcome. The record keeps the first code; IFF1 and IFF2 are not
written; under `UNIMPL_POLICY = FAULT` the core halts (spec/40_step_machine.md R412; R782 to R784). -/
def Obligations.UnimplementedOpcodes : Prop :=
  ∀ s : State,
    let claim (i : Instr) (code : Word) : Prop :=
      ∃ t, exec i s = .next t
        ∧ t.arch = (finished { s with
            unimplSeen := true
            unimplOp := if s.unimplSeen then s.unimplOp else code
            halted := s.halted || decide (s.cfg.unimplPolicy = .fault) }).arch
    claim .di 0x00F3 ∧ claim .ei 0x00FB ∧ ∀ y : BitVec 3, claim (.im y) (BitVec.ofNat 16 (0xED46 + 8 * y.toNat))

/-- The prefix bytes set the latch and leave everything else; `DD CB` and `FD CB` also request the READ of `d` at PC
(spec/40_step_machine.md R409; R785, R786). -/
def Obligations.PrefixBytes : Prop :=
  ∀ s : State,
    let latches (i : Instr) (l : Latch) : Prop :=
      ∃ t, exec i s = .next t ∧ t.arch = ({ s with latch := l } : State).arch
        ∧ t.seq.step = s.seq.step ∧ t.seq.nextCycle = s.seq.nextCycle ∧ t.seq.done = false
    let latchesXyCb (i : Instr) (l : Latch) : Prop :=
      ∃ t, exec i s = .next t ∧ t.arch = (setPc (s.regs.pc + 1) { s with latch := l }).arch
        ∧ t.seq.step = s.seq.step ∧ t.seq.nextCycle = .read ∧ t.seq.nextAddr = s.regs.pc ∧ t.seq.done = false
    latches .cbPrefix .cb ∧ latches .edPrefix .ed ∧ latches .ddPrefix .dd ∧ latches .fdPrefix .fd
    ∧ (∀ b, latches (.ddNoEffect b) .dd) ∧ (∀ b, latches (.fdNoEffect b) .fd)
    ∧ latchesXyCb .ddCbPrefix .ddcb ∧ latchesXyCb .fdCbPrefix .fdcb

/-- Every instruction that is not a prefix byte ends with its done signal: no instruction in progress, no prefix
latched, and a FETCH next (spec/40_step_machine.md R404). -/
def Obligations.InstructionsEndDone : Prop :=
  ∀ (i : Instr) (s : State), prefixLatch i = none → (∀ b, i ≠ .ddNoEffect b ∧ i ≠ .fdNoEffect b) →
    ∃ t, exec i s = .next t ∧ t.seq.step = 0 ∧ t.latch = .none ∧ t.seq.done = false ∧ t.seq.hold = false
      ∧ t.seq.holdLeft = 0 ∧ t.seq.nextCycle = .fetch

/-! ### The whole machine -/

/-- Nothing raises a fault and nothing is refused: every instruction in every state, and every step, has a next state.
For instructions and for steps from a boundary this is spec/60_exceptions.md R800; that the step of an inactive or
halted core answers that same state is the model's choice (log 13), and so is the step from inside a unit (log 12). -/
def Obligations.NothingFaults : Prop :=
  (∀ (i : Instr) (s : State), ∃ t, exec i s = .next t) ∧ (∀ s : State, SafeStep s)

/-- Every step keeps the invariant: memory in canonical form, IFF1 and IFF2 at 0, the reset counter at most 3, a halted
core between instructions (spec/10_state.md R110, R121, spec/70_reset_and_hazards.md R852). -/
def Obligations.InvariantKept : Prop :=
  ∀ s t : State, s.Inv → step s = .next t → t.Inv

/-- The invariant holds in the reset state, and the core is not halted there (spec/10_state.md R120). -/
def Obligations.InvariantAtReset : Prop := State.Inv State.reset ∧ State.reset.halted = false

/-- The index registers are read and written only under a DD or FD prefix: another instruction does the same whatever
they hold, and leaves them alone (spec/10_state.md R111). -/
def Obligations.IndexIsolation : Prop :=
  ∀ (i : Instr) (s : State) (x y : Word), latchOf i = .none ∨ latchOf i = .cb ∨ latchOf i = .ed →
    ∃ t, exec i s = .next t ∧ t.regs.ix = s.regs.ix ∧ t.regs.iy = s.regs.iy
      ∧ exec i { s with regs := { s.regs with ix := x, iy := y } }
          = .next { t with regs := { t.regs with ix := x, iy := y } }

/-- The shadow registers are read and written only by `EX AF,AF'` and `EXX` (spec/10_state.md R103). -/
def Obligations.ShadowIsolation : Prop :=
  ∀ (i : Instr) (s : State) (b d h a : Word), i ≠ .exAfAf → i ≠ .exx →
    ∃ t, exec i s = .next t
      ∧ t.regs.bcShadow = s.regs.bcShadow ∧ t.regs.deShadow = s.regs.deShadow
      ∧ t.regs.hlShadow = s.regs.hlShadow ∧ t.regs.afShadow = s.regs.afShadow
      ∧ exec i { s with regs := { s.regs with bcShadow := b, deShadow := d, hlShadow := h, afShadow := a } }
          = .next { t with regs := { t.regs with bcShadow := b, deShadow := d, hlShadow := h, afShadow := a } }

/-- No instruction can observe the address latch WZ: its whole architectural effect is the same whatever WZ held
(spec/10_state.md R112). -/
def Obligations.ScratchUnobservable : Prop :=
  ∀ (i : Instr) (s : State) (w : Word),
    ∃ t t', exec i s = .next t ∧ exec i (setWz w s) = .next t' ∧ t.arch = t'.arch

/-! ### Reset, dormancy and the bus (spec/70_reset_and_hazards.md, spec/20_memory.md) -/

/-- Asserting RESET gives every piece of the core's state its reset value at once, whatever it was; of the platform only
a write cycle in flight may change memory or the record (R851, spec/10_state.md R120; log 6). -/
def Obligations.ResetAssertion : Prop :=
  ∀ s : State, s.resetLow = false →
    let t := setReset true s
    (∀ byte ∈ t.regs.bytes, byte = 0)
    ∧ t.seq.cycle = .fetch ∧ t.seq.phase = 0 ∧ t.seq.step = 0
    ∧ t.seq.hold = false ∧ t.seq.holdLeft = 0 ∧ t.seq.done = false
    ∧ t.latch = .none ∧ t.fields = ⟨0, 0, 0, 0, 0⟩
    ∧ t.seq.nextCycle = .fetch ∧ t.seq.nextAddr = 0 ∧ t.seq.nextData = 0 ∧ t.seq.dataIn = 0
    ∧ t.halted = false ∧ t.unimplSeen = false ∧ t.unimplOp = 0
    ∧ t.active = false ∧ t.resetCount = 0 ∧ t.resetLow = true
    ∧ t.pins.m1 = false ∧ t.pins.mreq = false ∧ t.pins.iorq = false
    ∧ t.pins.rd = false ∧ t.pins.wr = false ∧ t.pins.rfsh = false
    ∧ t.pins.addr = none ∧ t.pins.data = none
    ∧ t.cfg = s.cfg ∧ t.ioIn = s.ioIn ∧ t.ioTape = s.ioTape ∧ t.memTape = s.memTape
    ∧ (writeInFlight s = false → t.mem = s.mem ∧ t.bus = s.bus)

/-- A reset pulse with any clock edges inside it: while it lasts edges only count, and on release the core is active
exactly when at least three rising edges were seen; the rest of the state is as the assertion left it (R852, R853). -/
def Obligations.ResetPulse : Prop :=
  ∀ (s : State) (edges : List Edge), s.resetLow = false →
    setReset false (ticks edges (setReset true s))
      = { setReset true s with
          resetLow := false
          resetCount := min (edges.count .rising) 3
          active := decide (3 ≤ edges.count .rising) }

/-- A core that is inactive or halted dispatches nothing. An inactive one is not changed by an edge; a halted one only
releases RFSH and the data bus (spec/40_step_machine.md R413, R414, spec/20_memory.md R235, R236). That the step of
such a core changes nothing is the model's choice (log 13), and that RFSH is released then too (log 26). -/
def Obligations.DormantCoreStays : Prop :=
  ∀ (s : State) (e : Edge),
    (s.dormant = true → step s = .next s)
    ∧ (s.resetLow = false → s.active = false → tick e s = s)
    ∧ (s.resetLow = false → s.active = true → s.halted = true →
        tick e s = { s with pins := { s.pins with rfsh := false, data := none } })

/-- The pins and the sampled byte through the phases of a FETCH cycle (spec/20_memory.md R225): phase `k` is entered by
edge `k+1` from the boundary. -/
def Obligations.FetchSchedule : Prop :=
  ∀ s : State, s.dormant = false → s.resetLow = false → s.seq.ended = true → s.seq.holdLeft = 0 →
    s.seq.nextCycle = .fetch →
    let edges : List Edge := [.rising, .falling, .rising, .falling, .rising, .falling, .rising, .falling]
    let phase (k : Nat) : State := ticks (edges.take (k + 1)) s
    (phase 0).pins = { s.pins with addr := some s.regs.pc, addrDelayed := false, data := none, rfsh := false, m1 := true }
    ∧ (phase 1).pins = { (phase 0).pins with mreq := true, rd := true }
    ∧ (phase 2).pins = (phase 1).pins ∧ (phase 3).pins = (phase 1).pins
    ∧ (phase 4).pins = { (phase 3).pins with
        m1 := false, mreq := false, rd := false, rfsh := true
        addr := some (mk16 s.regs.i s.regs.r), addrDelayed := true }
    ∧ (phase 4).seq.dataIn = memAnswer s.regs.pc s
    ∧ (phase 5).pins = { (phase 4).pins with mreq := true } ∧ (phase 6).pins = (phase 5).pins
    ∧ (phase 7).pins = { (phase 6).pins with mreq := false }
    ∧ (∀ k, k < 7 → (phase k).regs = s.regs)

/-- The pins through the phases of a WRITE cycle, and the byte in memory at its end (spec/20_memory.md R227): the data
bus is driven from phase 1, WR is asserted in phases 3 and 4. That memory changes in phase 5, when WR is released, is the
model's choice (log 17). -/
def Obligations.WriteSchedule : Prop :=
  ∀ s : State, s.dormant = false → s.resetLow = false → s.seq.ended = true → s.seq.holdLeft = 0 →
    s.seq.nextCycle = .write →
    let edges : List Edge := [.rising, .falling, .rising, .falling, .rising, .falling]
    let phase (k : Nat) : State := ticks (edges.take (k + 1)) s
    (phase 0).pins = { s.pins with addr := some s.seq.nextAddr, addrDelayed := false, rfsh := false }
    ∧ (phase 1).pins = { (phase 0).pins with data := some s.seq.nextData, mreq := true }
    ∧ (phase 2).pins = (phase 1).pins
    ∧ (phase 3).pins = { (phase 2).pins with wr := true } ∧ (phase 4).pins = (phase 3).pins
    ∧ (phase 4).mem = s.mem
    ∧ (phase 5).pins = { (phase 4).pins with mreq := false, wr := false }
    ∧ storedByte s.mem (phase 5).mem s.seq.nextAddr s.seq.nextData

end
end

