-- ==== Sys2Proof/Laws/Memory.lean ====
section
/-! SUPPORT. Memory: a read after a write, and every operation keeps the canonical form (log 1). -/

namespace Sys2Proof.Machine

theorem lookupCell_filter_self (dflt : Byte) (m : List Host.Cell) (n : Nat) :
    lookupCell dflt (m.filter (fun cell => cell.1 != n)) n = dflt := by
  induction m with
  | nil => rfl
  | cons c m ih =>
    obtain ⟨k, w⟩ := c
    by_cases h : k = n <;> simp [lookupCell, h, ih]

theorem lookupCell_filter_ne (dflt : Byte) (m : List Host.Cell) {n x : Nat} (hx : x ≠ n) :
    lookupCell dflt (m.filter (fun cell => cell.1 != n)) x = lookupCell dflt m x := by
  induction m with
  | nil => rfl
  | cons c m ih =>
    obtain ⟨k, w⟩ := c
    by_cases h : k = n
    · subst h; simp [lookupCell, ih, Ne.symm hx]
    · simp [lookupCell, h, ih]

theorem lookupCell_insert_ne (dflt : Byte) (m : List Host.Cell) {n x : Nat} (v : Byte) (hx : x ≠ n) :
    lookupCell dflt (insertCell n v m) x = lookupCell dflt m x := by
  induction m with
  | nil => simp [insertCell, lookupCell, Ne.symm hx]
  | cons c m ih =>
    obtain ⟨k, w⟩ := c
    by_cases h : n < k <;> simp [insertCell, lookupCell, h, ih, Ne.symm hx]

theorem lookupCell_insert_self (dflt : Byte) (m : List Host.Cell) (n : Nat) (v : Byte)
    (hm : ∀ c ∈ m, c.1 ≠ n) : lookupCell dflt (insertCell n v m) n = v := by
  induction m with
  | nil => simp [insertCell, lookupCell]
  | cons c m ih =>
    obtain ⟨k, w⟩ := c
    have hk : k ≠ n := hm (k, w) (by simp)
    have := ih (fun c hc => hm c (by simp [hc]))
    by_cases h : n < k <;> simp [insertCell, lookupCell, h, hk, this]

/-- A stored cell is read back; every other cell reads as before. -/
theorem lookupCell_store (dflt : Byte) (m : List Host.Cell) (n x : Nat) (v : Byte) :
    lookupCell dflt (storeCell dflt m n v) x = if x = n then v else lookupCell dflt m x := by
  unfold storeCell
  by_cases hx : x = n
  · subst hx
    by_cases hv : v = dflt
    · simp [hv, lookupCell_filter_self]
    · simp only [hv, if_false, if_true]
      exact lookupCell_insert_self _ _ _ _ (by simp +contextual)
  · by_cases hv : v = dflt
    · simp [hv, hx, lookupCell_filter_ne _ _ hx]
    · simp [hv, hx, lookupCell_insert_ne _ _ _ hx, lookupCell_filter_ne _ _ hx]

/-- A read after a write. -/
theorem Memory.read_write (m : Memory) (a b : Word) (v : Byte) :
    (m.write a v).read b = if b = a then v else m.read b := by
  simp only [Memory.read, Memory.write, lookupCell_store, BitVec.toNat_inj]

@[simp] theorem Memory.read_write_self (m : Memory) (a : Word) (v : Byte) : (m.write a v).read a = v := by
  simp [Memory.read_write]

theorem Memory.read_write_ne (m : Memory) {a b : Word} (v : Byte) (h : b ≠ a) :
    (m.write a v).read b = m.read b := by
  simp [Memory.read_write, h]

/-! ### The canonical form -/

/-- The canonical form, said with one bound: keys above `lo`. -/
theorem cellsCanonical_cons (dflt : Byte) (k : Nat) (v : Byte) (m : List Host.Cell) :
    cellsCanonical dflt ((k, v) :: m) = true ↔
      (k < 65536 ∧ v ≠ dflt ∧ (∀ c ∈ m, k < c.1) ∧ cellsCanonical dflt m = true) := by
  induction m generalizing k v with
  | nil => simp [cellsCanonical]
  | cons c m ih =>
    obtain ⟨k', v'⟩ := c
    have h1 : cellsCanonical dflt ((k, v) :: (k', v') :: m) = true ↔
        (k < k' ∧ v ≠ dflt ∧ cellsCanonical dflt ((k', v') :: m) = true) := by
      simp [cellsCanonical, and_assoc]
    rw [h1, ih k' v']
    constructor
    · rintro ⟨hk, hv, hk', hv', hm, hc⟩
      refine ⟨by omega, hv, ?_, hk', hv', hm, hc⟩
      intro c hc'
      rcases List.mem_cons.1 hc' with rfl | hc''
      · exact hk
      · exact lt_trans hk (hm c hc'')
    · rintro ⟨hk, hv, hall, hrest⟩
      exact ⟨hall (k', v') (by simp), hv, hrest⟩

theorem cellsCanonical_filter (dflt : Byte) (m : List Host.Cell) (n : Nat)
    (h : cellsCanonical dflt m = true) :
    cellsCanonical dflt (m.filter (fun cell => cell.1 != n)) = true := by
  induction m with
  | nil => simp [cellsCanonical]
  | cons c m ih =>
    obtain ⟨k, v⟩ := c
    obtain ⟨hk, hv, hall, hc⟩ := (cellsCanonical_cons dflt k v m).1 h
    by_cases hn : k = n
    · simp [hn, ih hc]
    · simp only [List.filter_cons, bne_iff_ne, ne_eq, hn, not_false_eq_true, if_true]
      exact (cellsCanonical_cons dflt k v _).2 ⟨hk, hv, fun c hc' => hall c (List.mem_of_mem_filter hc'), ih hc⟩

theorem mem_insertCell {n : Nat} {v : Byte} {m : List Host.Cell} {c : Host.Cell}
    (h : c ∈ insertCell n v m) : c = (n, v) ∨ c ∈ m := by
  induction m with
  | nil => simpa [insertCell] using h
  | cons d m ih =>
    obtain ⟨k, w⟩ := d
    by_cases hk : n < k
    · simpa [insertCell, hk] using h
    · simp only [insertCell, hk, if_false, List.mem_cons] at h
      rcases h with h | h
      · exact .inr (by simp [h])
      · rcases ih h with h | h
        · exact .inl h
        · exact .inr (by simp [h])

theorem cellsCanonical_insert (dflt : Byte) (m : List Host.Cell) (n : Nat) (v : Byte) (hn : n < 65536)
    (hv : v ≠ dflt) (hm : ∀ c ∈ m, c.1 ≠ n) (h : cellsCanonical dflt m = true) :
    cellsCanonical dflt (insertCell n v m) = true := by
  induction m with
  | nil => simp [insertCell, cellsCanonical, hn, hv]
  | cons c m ih =>
    obtain ⟨k, w⟩ := c
    obtain ⟨hk, hw, hall, hc⟩ := (cellsCanonical_cons dflt k w m).1 h
    have hkn : k ≠ n := hm (k, w) (by simp)
    by_cases hlt : n < k
    · simp only [insertCell, hlt, if_true]
      refine (cellsCanonical_cons dflt n v _).2 ⟨hn, hv, ?_, h⟩
      intro c hc'
      rcases List.mem_cons.1 hc' with rfl | hc''
      · exact hlt
      · exact lt_trans hlt (hall c hc'')
    · simp only [insertCell, hlt, if_false]
      refine (cellsCanonical_cons dflt k w _).2 ⟨hk, hw, ?_, ih (fun c hc' => hm c (by simp [hc'])) hc⟩
      intro c hc'
      rcases mem_insertCell hc' with rfl | hc''
      · show k < n; omega
      · exact hall c hc''

/-- Storing a cell keeps the canonical form. -/
theorem cellsCanonical_store (dflt : Byte) (m : List Host.Cell) (n : Nat) (v : Byte) (hn : n < 65536)
    (h : cellsCanonical dflt m = true) : cellsCanonical dflt (storeCell dflt m n v) = true := by
  unfold storeCell
  by_cases hv : v = dflt
  · simpa [hv] using cellsCanonical_filter dflt m n h
  · simp only [hv, if_false]
    exact cellsCanonical_insert _ _ _ _ hn hv (by simp +contextual) (cellsCanonical_filter dflt m n h)

/-- A write keeps memory's canonical form. -/
theorem Memory.wf_write {m : Memory} (a : Word) (v : Byte) (h : m.wf = true) : (m.write a v).wf = true :=
  cellsCanonical_store _ _ _ _ a.isLt h

/-- Writing several bytes keeps memory's canonical form. -/
theorem Memory.wf_writeBytes {m : Memory} (a : Word) (vs : List Byte) (h : m.wf = true) :
    (m.writeBytes a vs).wf = true := by
  induction vs generalizing m a with
  | nil => exact h
  | cons v vs ih => exact ih (a + 1) (Memory.wf_write a v h)

/-- Reset memory has the canonical form. -/
theorem reset_mem_wf : State.reset.mem.wf = true := rfl

/-- The oracle's answer after one answer is changed. -/
theorem IoTable.answer_setAnswer (t : IoTable) (p q : Word) (v : Byte) :
    (t.setAnswer p v).answer q = if q = p then v else t.answer q := by
  simp only [IoTable.answer, IoTable.setAnswer, lookupCell_store, BitVec.toNat_inj]

end Sys2Proof.Machine
end

