-- ==== Sys2Proof/Laws/Programs.lean ====
section
/-! SUPPORT. A meaning is its steps, run: what every step of a program and every bus cycle keeps, a meaning keeps. -/

namespace Sys2Proof.Machine

/-- Every instruction's meaning runs its steps (spec/40_step_machine.md R411). -/
theorem exec_eq_run (i : Instr) (s : State) : exec i s = .next (runSteps (programOf i) (settle s)) := by
  cases i <;> rfl

/-- A relation between states that settling, a bus cycle and every step of a program bring about is brought about by the
run. -/
theorem runSteps_keeps (R : State → State → Prop) (trans : ∀ {a b c}, R a b → R b c → R a c)
    (hsettle : ∀ s, R s (settle s)) (hbus : ∀ s, R s (busCycle s)) :
    ∀ (p : Program) (s : State), (∀ f ∈ p, ∀ s, R s (f s)) → R s (runSteps p s)
  | [], s, _ => hsettle s
  | [f], s, h => trans (h f (by simp) s) (hsettle _)
  | f :: g :: rest, s, h => by
    unfold runSteps
    have hf := h f (by simp) s
    by_cases hd : (f s).seq.done
    · simp only [hd, if_true]; exact trans hf (hsettle _)
    · simp only [hd]
      exact trans hf (trans (hbus _)
        (runSteps_keeps R trans hsettle hbus (g :: rest) _ (fun k hk => h k (List.mem_cons_of_mem _ hk))))

end Sys2Proof.Machine
end

