-- ==== Sys2Proof/Laws/State.lean ====
section
/-! SUPPORT. What each operation on State leaves in each field: one lemma per field per operation. -/

namespace Sys2Proof.Machine

@[simp] theorem setAf_regs (v : Word) (s : State) : (setAf v s).regs = { s.regs with a := hi8 v, f := lo8 v } := rfl
@[simp] theorem setAf_mem (v : Word) (s : State) : (setAf v s).mem = s.mem := rfl
@[simp] theorem setAf_ioIn (v : Word) (s : State) : (setAf v s).ioIn = s.ioIn := rfl
@[simp] theorem setAf_ioTape (v : Word) (s : State) : (setAf v s).ioTape = s.ioTape := rfl
@[simp] theorem setAf_memTape (v : Word) (s : State) : (setAf v s).memTape = s.memTape := rfl
@[simp] theorem setAf_latch (v : Word) (s : State) : (setAf v s).latch = s.latch := rfl
@[simp] theorem setAf_fields (v : Word) (s : State) : (setAf v s).fields = s.fields := rfl
@[simp] theorem setAf_seq (v : Word) (s : State) : (setAf v s).seq = s.seq := rfl
@[simp] theorem setAf_pins (v : Word) (s : State) : (setAf v s).pins = s.pins := rfl
@[simp] theorem setAf_active (v : Word) (s : State) : (setAf v s).active = s.active := rfl
@[simp] theorem setAf_resetLow (v : Word) (s : State) : (setAf v s).resetLow = s.resetLow := rfl
@[simp] theorem setAf_resetCount (v : Word) (s : State) : (setAf v s).resetCount = s.resetCount := rfl
@[simp] theorem setAf_halted (v : Word) (s : State) : (setAf v s).halted = s.halted := rfl
@[simp] theorem setAf_unimplSeen (v : Word) (s : State) : (setAf v s).unimplSeen = s.unimplSeen := rfl
@[simp] theorem setAf_unimplOp (v : Word) (s : State) : (setAf v s).unimplOp = s.unimplOp := rfl
@[simp] theorem setAf_bus (v : Word) (s : State) : (setAf v s).bus = s.bus := rfl
@[simp] theorem setAf_draws (v : Word) (s : State) : (setAf v s).draws = s.draws := rfl
@[simp] theorem setAf_cfg (v : Word) (s : State) : (setAf v s).cfg = s.cfg := rfl

@[simp] theorem setBc_regs (v : Word) (s : State) : (setBc v s).regs = { s.regs with b := hi8 v, c := lo8 v } := rfl
@[simp] theorem setBc_mem (v : Word) (s : State) : (setBc v s).mem = s.mem := rfl
@[simp] theorem setBc_ioIn (v : Word) (s : State) : (setBc v s).ioIn = s.ioIn := rfl
@[simp] theorem setBc_ioTape (v : Word) (s : State) : (setBc v s).ioTape = s.ioTape := rfl
@[simp] theorem setBc_memTape (v : Word) (s : State) : (setBc v s).memTape = s.memTape := rfl
@[simp] theorem setBc_latch (v : Word) (s : State) : (setBc v s).latch = s.latch := rfl
@[simp] theorem setBc_fields (v : Word) (s : State) : (setBc v s).fields = s.fields := rfl
@[simp] theorem setBc_seq (v : Word) (s : State) : (setBc v s).seq = s.seq := rfl
@[simp] theorem setBc_pins (v : Word) (s : State) : (setBc v s).pins = s.pins := rfl
@[simp] theorem setBc_active (v : Word) (s : State) : (setBc v s).active = s.active := rfl
@[simp] theorem setBc_resetLow (v : Word) (s : State) : (setBc v s).resetLow = s.resetLow := rfl
@[simp] theorem setBc_resetCount (v : Word) (s : State) : (setBc v s).resetCount = s.resetCount := rfl
@[simp] theorem setBc_halted (v : Word) (s : State) : (setBc v s).halted = s.halted := rfl
@[simp] theorem setBc_unimplSeen (v : Word) (s : State) : (setBc v s).unimplSeen = s.unimplSeen := rfl
@[simp] theorem setBc_unimplOp (v : Word) (s : State) : (setBc v s).unimplOp = s.unimplOp := rfl
@[simp] theorem setBc_bus (v : Word) (s : State) : (setBc v s).bus = s.bus := rfl
@[simp] theorem setBc_draws (v : Word) (s : State) : (setBc v s).draws = s.draws := rfl
@[simp] theorem setBc_cfg (v : Word) (s : State) : (setBc v s).cfg = s.cfg := rfl

@[simp] theorem setDe_regs (v : Word) (s : State) : (setDe v s).regs = { s.regs with d := hi8 v, e := lo8 v } := rfl
@[simp] theorem setDe_mem (v : Word) (s : State) : (setDe v s).mem = s.mem := rfl
@[simp] theorem setDe_ioIn (v : Word) (s : State) : (setDe v s).ioIn = s.ioIn := rfl
@[simp] theorem setDe_ioTape (v : Word) (s : State) : (setDe v s).ioTape = s.ioTape := rfl
@[simp] theorem setDe_memTape (v : Word) (s : State) : (setDe v s).memTape = s.memTape := rfl
@[simp] theorem setDe_latch (v : Word) (s : State) : (setDe v s).latch = s.latch := rfl
@[simp] theorem setDe_fields (v : Word) (s : State) : (setDe v s).fields = s.fields := rfl
@[simp] theorem setDe_seq (v : Word) (s : State) : (setDe v s).seq = s.seq := rfl
@[simp] theorem setDe_pins (v : Word) (s : State) : (setDe v s).pins = s.pins := rfl
@[simp] theorem setDe_active (v : Word) (s : State) : (setDe v s).active = s.active := rfl
@[simp] theorem setDe_resetLow (v : Word) (s : State) : (setDe v s).resetLow = s.resetLow := rfl
@[simp] theorem setDe_resetCount (v : Word) (s : State) : (setDe v s).resetCount = s.resetCount := rfl
@[simp] theorem setDe_halted (v : Word) (s : State) : (setDe v s).halted = s.halted := rfl
@[simp] theorem setDe_unimplSeen (v : Word) (s : State) : (setDe v s).unimplSeen = s.unimplSeen := rfl
@[simp] theorem setDe_unimplOp (v : Word) (s : State) : (setDe v s).unimplOp = s.unimplOp := rfl
@[simp] theorem setDe_bus (v : Word) (s : State) : (setDe v s).bus = s.bus := rfl
@[simp] theorem setDe_draws (v : Word) (s : State) : (setDe v s).draws = s.draws := rfl
@[simp] theorem setDe_cfg (v : Word) (s : State) : (setDe v s).cfg = s.cfg := rfl

@[simp] theorem setHl_regs (v : Word) (s : State) : (setHl v s).regs = { s.regs with h := hi8 v, l := lo8 v } := rfl
@[simp] theorem setHl_mem (v : Word) (s : State) : (setHl v s).mem = s.mem := rfl
@[simp] theorem setHl_ioIn (v : Word) (s : State) : (setHl v s).ioIn = s.ioIn := rfl
@[simp] theorem setHl_ioTape (v : Word) (s : State) : (setHl v s).ioTape = s.ioTape := rfl
@[simp] theorem setHl_memTape (v : Word) (s : State) : (setHl v s).memTape = s.memTape := rfl
@[simp] theorem setHl_latch (v : Word) (s : State) : (setHl v s).latch = s.latch := rfl
@[simp] theorem setHl_fields (v : Word) (s : State) : (setHl v s).fields = s.fields := rfl
@[simp] theorem setHl_seq (v : Word) (s : State) : (setHl v s).seq = s.seq := rfl
@[simp] theorem setHl_pins (v : Word) (s : State) : (setHl v s).pins = s.pins := rfl
@[simp] theorem setHl_active (v : Word) (s : State) : (setHl v s).active = s.active := rfl
@[simp] theorem setHl_resetLow (v : Word) (s : State) : (setHl v s).resetLow = s.resetLow := rfl
@[simp] theorem setHl_resetCount (v : Word) (s : State) : (setHl v s).resetCount = s.resetCount := rfl
@[simp] theorem setHl_halted (v : Word) (s : State) : (setHl v s).halted = s.halted := rfl
@[simp] theorem setHl_unimplSeen (v : Word) (s : State) : (setHl v s).unimplSeen = s.unimplSeen := rfl
@[simp] theorem setHl_unimplOp (v : Word) (s : State) : (setHl v s).unimplOp = s.unimplOp := rfl
@[simp] theorem setHl_bus (v : Word) (s : State) : (setHl v s).bus = s.bus := rfl
@[simp] theorem setHl_draws (v : Word) (s : State) : (setHl v s).draws = s.draws := rfl
@[simp] theorem setHl_cfg (v : Word) (s : State) : (setHl v s).cfg = s.cfg := rfl

@[simp] theorem setPc_regs (v : Word) (s : State) : (setPc v s).regs = { s.regs with pc := v } := rfl
@[simp] theorem setPc_mem (v : Word) (s : State) : (setPc v s).mem = s.mem := rfl
@[simp] theorem setPc_ioIn (v : Word) (s : State) : (setPc v s).ioIn = s.ioIn := rfl
@[simp] theorem setPc_ioTape (v : Word) (s : State) : (setPc v s).ioTape = s.ioTape := rfl
@[simp] theorem setPc_memTape (v : Word) (s : State) : (setPc v s).memTape = s.memTape := rfl
@[simp] theorem setPc_latch (v : Word) (s : State) : (setPc v s).latch = s.latch := rfl
@[simp] theorem setPc_fields (v : Word) (s : State) : (setPc v s).fields = s.fields := rfl
@[simp] theorem setPc_seq (v : Word) (s : State) : (setPc v s).seq = s.seq := rfl
@[simp] theorem setPc_pins (v : Word) (s : State) : (setPc v s).pins = s.pins := rfl
@[simp] theorem setPc_active (v : Word) (s : State) : (setPc v s).active = s.active := rfl
@[simp] theorem setPc_resetLow (v : Word) (s : State) : (setPc v s).resetLow = s.resetLow := rfl
@[simp] theorem setPc_resetCount (v : Word) (s : State) : (setPc v s).resetCount = s.resetCount := rfl
@[simp] theorem setPc_halted (v : Word) (s : State) : (setPc v s).halted = s.halted := rfl
@[simp] theorem setPc_unimplSeen (v : Word) (s : State) : (setPc v s).unimplSeen = s.unimplSeen := rfl
@[simp] theorem setPc_unimplOp (v : Word) (s : State) : (setPc v s).unimplOp = s.unimplOp := rfl
@[simp] theorem setPc_bus (v : Word) (s : State) : (setPc v s).bus = s.bus := rfl
@[simp] theorem setPc_draws (v : Word) (s : State) : (setPc v s).draws = s.draws := rfl
@[simp] theorem setPc_cfg (v : Word) (s : State) : (setPc v s).cfg = s.cfg := rfl

@[simp] theorem setSp_regs (v : Word) (s : State) : (setSp v s).regs = { s.regs with sp := v } := rfl
@[simp] theorem setSp_mem (v : Word) (s : State) : (setSp v s).mem = s.mem := rfl
@[simp] theorem setSp_ioIn (v : Word) (s : State) : (setSp v s).ioIn = s.ioIn := rfl
@[simp] theorem setSp_ioTape (v : Word) (s : State) : (setSp v s).ioTape = s.ioTape := rfl
@[simp] theorem setSp_memTape (v : Word) (s : State) : (setSp v s).memTape = s.memTape := rfl
@[simp] theorem setSp_latch (v : Word) (s : State) : (setSp v s).latch = s.latch := rfl
@[simp] theorem setSp_fields (v : Word) (s : State) : (setSp v s).fields = s.fields := rfl
@[simp] theorem setSp_seq (v : Word) (s : State) : (setSp v s).seq = s.seq := rfl
@[simp] theorem setSp_pins (v : Word) (s : State) : (setSp v s).pins = s.pins := rfl
@[simp] theorem setSp_active (v : Word) (s : State) : (setSp v s).active = s.active := rfl
@[simp] theorem setSp_resetLow (v : Word) (s : State) : (setSp v s).resetLow = s.resetLow := rfl
@[simp] theorem setSp_resetCount (v : Word) (s : State) : (setSp v s).resetCount = s.resetCount := rfl
@[simp] theorem setSp_halted (v : Word) (s : State) : (setSp v s).halted = s.halted := rfl
@[simp] theorem setSp_unimplSeen (v : Word) (s : State) : (setSp v s).unimplSeen = s.unimplSeen := rfl
@[simp] theorem setSp_unimplOp (v : Word) (s : State) : (setSp v s).unimplOp = s.unimplOp := rfl
@[simp] theorem setSp_bus (v : Word) (s : State) : (setSp v s).bus = s.bus := rfl
@[simp] theorem setSp_draws (v : Word) (s : State) : (setSp v s).draws = s.draws := rfl
@[simp] theorem setSp_cfg (v : Word) (s : State) : (setSp v s).cfg = s.cfg := rfl

@[simp] theorem setWz_regs (v : Word) (s : State) : (setWz v s).regs = { s.regs with wz := v } := rfl
@[simp] theorem setWz_mem (v : Word) (s : State) : (setWz v s).mem = s.mem := rfl
@[simp] theorem setWz_ioIn (v : Word) (s : State) : (setWz v s).ioIn = s.ioIn := rfl
@[simp] theorem setWz_ioTape (v : Word) (s : State) : (setWz v s).ioTape = s.ioTape := rfl
@[simp] theorem setWz_memTape (v : Word) (s : State) : (setWz v s).memTape = s.memTape := rfl
@[simp] theorem setWz_latch (v : Word) (s : State) : (setWz v s).latch = s.latch := rfl
@[simp] theorem setWz_fields (v : Word) (s : State) : (setWz v s).fields = s.fields := rfl
@[simp] theorem setWz_seq (v : Word) (s : State) : (setWz v s).seq = s.seq := rfl
@[simp] theorem setWz_pins (v : Word) (s : State) : (setWz v s).pins = s.pins := rfl
@[simp] theorem setWz_active (v : Word) (s : State) : (setWz v s).active = s.active := rfl
@[simp] theorem setWz_resetLow (v : Word) (s : State) : (setWz v s).resetLow = s.resetLow := rfl
@[simp] theorem setWz_resetCount (v : Word) (s : State) : (setWz v s).resetCount = s.resetCount := rfl
@[simp] theorem setWz_halted (v : Word) (s : State) : (setWz v s).halted = s.halted := rfl
@[simp] theorem setWz_unimplSeen (v : Word) (s : State) : (setWz v s).unimplSeen = s.unimplSeen := rfl
@[simp] theorem setWz_unimplOp (v : Word) (s : State) : (setWz v s).unimplOp = s.unimplOp := rfl
@[simp] theorem setWz_bus (v : Word) (s : State) : (setWz v s).bus = s.bus := rfl
@[simp] theorem setWz_draws (v : Word) (s : State) : (setWz v s).draws = s.draws := rfl
@[simp] theorem setWz_cfg (v : Word) (s : State) : (setWz v s).cfg = s.cfg := rfl

@[simp] theorem setI_regs (v : Byte) (s : State) : (setI v s).regs = { s.regs with i := v } := rfl
@[simp] theorem setI_mem (v : Byte) (s : State) : (setI v s).mem = s.mem := rfl
@[simp] theorem setI_ioIn (v : Byte) (s : State) : (setI v s).ioIn = s.ioIn := rfl
@[simp] theorem setI_ioTape (v : Byte) (s : State) : (setI v s).ioTape = s.ioTape := rfl
@[simp] theorem setI_memTape (v : Byte) (s : State) : (setI v s).memTape = s.memTape := rfl
@[simp] theorem setI_latch (v : Byte) (s : State) : (setI v s).latch = s.latch := rfl
@[simp] theorem setI_fields (v : Byte) (s : State) : (setI v s).fields = s.fields := rfl
@[simp] theorem setI_seq (v : Byte) (s : State) : (setI v s).seq = s.seq := rfl
@[simp] theorem setI_pins (v : Byte) (s : State) : (setI v s).pins = s.pins := rfl
@[simp] theorem setI_active (v : Byte) (s : State) : (setI v s).active = s.active := rfl
@[simp] theorem setI_resetLow (v : Byte) (s : State) : (setI v s).resetLow = s.resetLow := rfl
@[simp] theorem setI_resetCount (v : Byte) (s : State) : (setI v s).resetCount = s.resetCount := rfl
@[simp] theorem setI_halted (v : Byte) (s : State) : (setI v s).halted = s.halted := rfl
@[simp] theorem setI_unimplSeen (v : Byte) (s : State) : (setI v s).unimplSeen = s.unimplSeen := rfl
@[simp] theorem setI_unimplOp (v : Byte) (s : State) : (setI v s).unimplOp = s.unimplOp := rfl
@[simp] theorem setI_bus (v : Byte) (s : State) : (setI v s).bus = s.bus := rfl
@[simp] theorem setI_draws (v : Byte) (s : State) : (setI v s).draws = s.draws := rfl
@[simp] theorem setI_cfg (v : Byte) (s : State) : (setI v s).cfg = s.cfg := rfl

@[simp] theorem setRefresh_regs (v : Byte) (s : State) : (setRefresh v s).regs = { s.regs with r := v } := rfl
@[simp] theorem setRefresh_mem (v : Byte) (s : State) : (setRefresh v s).mem = s.mem := rfl
@[simp] theorem setRefresh_ioIn (v : Byte) (s : State) : (setRefresh v s).ioIn = s.ioIn := rfl
@[simp] theorem setRefresh_ioTape (v : Byte) (s : State) : (setRefresh v s).ioTape = s.ioTape := rfl
@[simp] theorem setRefresh_memTape (v : Byte) (s : State) : (setRefresh v s).memTape = s.memTape := rfl
@[simp] theorem setRefresh_latch (v : Byte) (s : State) : (setRefresh v s).latch = s.latch := rfl
@[simp] theorem setRefresh_fields (v : Byte) (s : State) : (setRefresh v s).fields = s.fields := rfl
@[simp] theorem setRefresh_seq (v : Byte) (s : State) : (setRefresh v s).seq = s.seq := rfl
@[simp] theorem setRefresh_pins (v : Byte) (s : State) : (setRefresh v s).pins = s.pins := rfl
@[simp] theorem setRefresh_active (v : Byte) (s : State) : (setRefresh v s).active = s.active := rfl
@[simp] theorem setRefresh_resetLow (v : Byte) (s : State) : (setRefresh v s).resetLow = s.resetLow := rfl
@[simp] theorem setRefresh_resetCount (v : Byte) (s : State) : (setRefresh v s).resetCount = s.resetCount := rfl
@[simp] theorem setRefresh_halted (v : Byte) (s : State) : (setRefresh v s).halted = s.halted := rfl
@[simp] theorem setRefresh_unimplSeen (v : Byte) (s : State) : (setRefresh v s).unimplSeen = s.unimplSeen := rfl
@[simp] theorem setRefresh_unimplOp (v : Byte) (s : State) : (setRefresh v s).unimplOp = s.unimplOp := rfl
@[simp] theorem setRefresh_bus (v : Byte) (s : State) : (setRefresh v s).bus = s.bus := rfl
@[simp] theorem setRefresh_draws (v : Byte) (s : State) : (setRefresh v s).draws = s.draws := rfl
@[simp] theorem setRefresh_cfg (v : Byte) (s : State) : (setRefresh v s).cfg = s.cfg := rfl

@[simp] theorem setF_regs (v : Byte) (s : State) : (setF v s).regs = { s.regs with f := v } := rfl
@[simp] theorem setF_mem (v : Byte) (s : State) : (setF v s).mem = s.mem := rfl
@[simp] theorem setF_ioIn (v : Byte) (s : State) : (setF v s).ioIn = s.ioIn := rfl
@[simp] theorem setF_ioTape (v : Byte) (s : State) : (setF v s).ioTape = s.ioTape := rfl
@[simp] theorem setF_memTape (v : Byte) (s : State) : (setF v s).memTape = s.memTape := rfl
@[simp] theorem setF_latch (v : Byte) (s : State) : (setF v s).latch = s.latch := rfl
@[simp] theorem setF_fields (v : Byte) (s : State) : (setF v s).fields = s.fields := rfl
@[simp] theorem setF_seq (v : Byte) (s : State) : (setF v s).seq = s.seq := rfl
@[simp] theorem setF_pins (v : Byte) (s : State) : (setF v s).pins = s.pins := rfl
@[simp] theorem setF_active (v : Byte) (s : State) : (setF v s).active = s.active := rfl
@[simp] theorem setF_resetLow (v : Byte) (s : State) : (setF v s).resetLow = s.resetLow := rfl
@[simp] theorem setF_resetCount (v : Byte) (s : State) : (setF v s).resetCount = s.resetCount := rfl
@[simp] theorem setF_halted (v : Byte) (s : State) : (setF v s).halted = s.halted := rfl
@[simp] theorem setF_unimplSeen (v : Byte) (s : State) : (setF v s).unimplSeen = s.unimplSeen := rfl
@[simp] theorem setF_unimplOp (v : Byte) (s : State) : (setF v s).unimplOp = s.unimplOp := rfl
@[simp] theorem setF_bus (v : Byte) (s : State) : (setF v s).bus = s.bus := rfl
@[simp] theorem setF_draws (v : Byte) (s : State) : (setF v s).draws = s.draws := rfl
@[simp] theorem setF_cfg (v : Byte) (s : State) : (setF v s).cfg = s.cfg := rfl

@[simp] theorem setR_mem (r : R8) (v : Byte) (s : State) : (setR r v s).mem = s.mem := by cases r <;> rfl
@[simp] theorem setR_ioIn (r : R8) (v : Byte) (s : State) : (setR r v s).ioIn = s.ioIn := by cases r <;> rfl
@[simp] theorem setR_ioTape (r : R8) (v : Byte) (s : State) : (setR r v s).ioTape = s.ioTape := by cases r <;> rfl
@[simp] theorem setR_memTape (r : R8) (v : Byte) (s : State) : (setR r v s).memTape = s.memTape := by cases r <;> rfl
@[simp] theorem setR_latch (r : R8) (v : Byte) (s : State) : (setR r v s).latch = s.latch := by cases r <;> rfl
@[simp] theorem setR_fields (r : R8) (v : Byte) (s : State) : (setR r v s).fields = s.fields := by cases r <;> rfl
@[simp] theorem setR_seq (r : R8) (v : Byte) (s : State) : (setR r v s).seq = s.seq := by cases r <;> rfl
@[simp] theorem setR_pins (r : R8) (v : Byte) (s : State) : (setR r v s).pins = s.pins := by cases r <;> rfl
@[simp] theorem setR_active (r : R8) (v : Byte) (s : State) : (setR r v s).active = s.active := by cases r <;> rfl
@[simp] theorem setR_resetLow (r : R8) (v : Byte) (s : State) : (setR r v s).resetLow = s.resetLow := by cases r <;> rfl
@[simp] theorem setR_resetCount (r : R8) (v : Byte) (s : State) : (setR r v s).resetCount = s.resetCount := by cases r <;> rfl
@[simp] theorem setR_halted (r : R8) (v : Byte) (s : State) : (setR r v s).halted = s.halted := by cases r <;> rfl
@[simp] theorem setR_unimplSeen (r : R8) (v : Byte) (s : State) : (setR r v s).unimplSeen = s.unimplSeen := by cases r <;> rfl
@[simp] theorem setR_unimplOp (r : R8) (v : Byte) (s : State) : (setR r v s).unimplOp = s.unimplOp := by cases r <;> rfl
@[simp] theorem setR_bus (r : R8) (v : Byte) (s : State) : (setR r v s).bus = s.bus := by cases r <;> rfl
@[simp] theorem setR_draws (r : R8) (v : Byte) (s : State) : (setR r v s).draws = s.draws := by cases r <;> rfl
@[simp] theorem setR_cfg (r : R8) (v : Byte) (s : State) : (setR r v s).cfg = s.cfg := by cases r <;> rfl

@[simp] theorem setX_mem (xy : XY) (v : Word) (s : State) : (setX xy v s).mem = s.mem := by cases xy <;> rfl
@[simp] theorem setX_ioIn (xy : XY) (v : Word) (s : State) : (setX xy v s).ioIn = s.ioIn := by cases xy <;> rfl
@[simp] theorem setX_ioTape (xy : XY) (v : Word) (s : State) : (setX xy v s).ioTape = s.ioTape := by cases xy <;> rfl
@[simp] theorem setX_memTape (xy : XY) (v : Word) (s : State) : (setX xy v s).memTape = s.memTape := by cases xy <;> rfl
@[simp] theorem setX_latch (xy : XY) (v : Word) (s : State) : (setX xy v s).latch = s.latch := by cases xy <;> rfl
@[simp] theorem setX_fields (xy : XY) (v : Word) (s : State) : (setX xy v s).fields = s.fields := by cases xy <;> rfl
@[simp] theorem setX_seq (xy : XY) (v : Word) (s : State) : (setX xy v s).seq = s.seq := by cases xy <;> rfl
@[simp] theorem setX_pins (xy : XY) (v : Word) (s : State) : (setX xy v s).pins = s.pins := by cases xy <;> rfl
@[simp] theorem setX_active (xy : XY) (v : Word) (s : State) : (setX xy v s).active = s.active := by cases xy <;> rfl
@[simp] theorem setX_resetLow (xy : XY) (v : Word) (s : State) : (setX xy v s).resetLow = s.resetLow := by cases xy <;> rfl
@[simp] theorem setX_resetCount (xy : XY) (v : Word) (s : State) : (setX xy v s).resetCount = s.resetCount := by cases xy <;> rfl
@[simp] theorem setX_halted (xy : XY) (v : Word) (s : State) : (setX xy v s).halted = s.halted := by cases xy <;> rfl
@[simp] theorem setX_unimplSeen (xy : XY) (v : Word) (s : State) : (setX xy v s).unimplSeen = s.unimplSeen := by cases xy <;> rfl
@[simp] theorem setX_unimplOp (xy : XY) (v : Word) (s : State) : (setX xy v s).unimplOp = s.unimplOp := by cases xy <;> rfl
@[simp] theorem setX_bus (xy : XY) (v : Word) (s : State) : (setX xy v s).bus = s.bus := by cases xy <;> rfl
@[simp] theorem setX_draws (xy : XY) (v : Word) (s : State) : (setX xy v s).draws = s.draws := by cases xy <;> rfl
@[simp] theorem setX_cfg (xy : XY) (v : Word) (s : State) : (setX xy v s).cfg = s.cfg := by cases xy <;> rfl

@[simp] theorem restoreIff_regs (s : State) : (restoreIff s).regs = { s.regs with iff1 := s.regs.iff2 } := rfl
@[simp] theorem restoreIff_mem (s : State) : (restoreIff s).mem = s.mem := rfl
@[simp] theorem restoreIff_ioIn (s : State) : (restoreIff s).ioIn = s.ioIn := rfl
@[simp] theorem restoreIff_ioTape (s : State) : (restoreIff s).ioTape = s.ioTape := rfl
@[simp] theorem restoreIff_memTape (s : State) : (restoreIff s).memTape = s.memTape := rfl
@[simp] theorem restoreIff_latch (s : State) : (restoreIff s).latch = s.latch := rfl
@[simp] theorem restoreIff_fields (s : State) : (restoreIff s).fields = s.fields := rfl
@[simp] theorem restoreIff_seq (s : State) : (restoreIff s).seq = s.seq := rfl
@[simp] theorem restoreIff_pins (s : State) : (restoreIff s).pins = s.pins := rfl
@[simp] theorem restoreIff_active (s : State) : (restoreIff s).active = s.active := rfl
@[simp] theorem restoreIff_resetLow (s : State) : (restoreIff s).resetLow = s.resetLow := rfl
@[simp] theorem restoreIff_resetCount (s : State) : (restoreIff s).resetCount = s.resetCount := rfl
@[simp] theorem restoreIff_halted (s : State) : (restoreIff s).halted = s.halted := rfl
@[simp] theorem restoreIff_unimplSeen (s : State) : (restoreIff s).unimplSeen = s.unimplSeen := rfl
@[simp] theorem restoreIff_unimplOp (s : State) : (restoreIff s).unimplOp = s.unimplOp := rfl
@[simp] theorem restoreIff_bus (s : State) : (restoreIff s).bus = s.bus := rfl
@[simp] theorem restoreIff_draws (s : State) : (restoreIff s).draws = s.draws := rfl
@[simp] theorem restoreIff_cfg (s : State) : (restoreIff s).cfg = s.cfg := rfl

@[simp] theorem exchangeAf_regs (s : State) : (exchangeAf s).regs = { s.regs with a := hi8 s.regs.afShadow, f := lo8 s.regs.afShadow, afShadow := s.af } := rfl
@[simp] theorem exchangeAf_mem (s : State) : (exchangeAf s).mem = s.mem := rfl
@[simp] theorem exchangeAf_ioIn (s : State) : (exchangeAf s).ioIn = s.ioIn := rfl
@[simp] theorem exchangeAf_ioTape (s : State) : (exchangeAf s).ioTape = s.ioTape := rfl
@[simp] theorem exchangeAf_memTape (s : State) : (exchangeAf s).memTape = s.memTape := rfl
@[simp] theorem exchangeAf_latch (s : State) : (exchangeAf s).latch = s.latch := rfl
@[simp] theorem exchangeAf_fields (s : State) : (exchangeAf s).fields = s.fields := rfl
@[simp] theorem exchangeAf_seq (s : State) : (exchangeAf s).seq = s.seq := rfl
@[simp] theorem exchangeAf_pins (s : State) : (exchangeAf s).pins = s.pins := rfl
@[simp] theorem exchangeAf_active (s : State) : (exchangeAf s).active = s.active := rfl
@[simp] theorem exchangeAf_resetLow (s : State) : (exchangeAf s).resetLow = s.resetLow := rfl
@[simp] theorem exchangeAf_resetCount (s : State) : (exchangeAf s).resetCount = s.resetCount := rfl
@[simp] theorem exchangeAf_halted (s : State) : (exchangeAf s).halted = s.halted := rfl
@[simp] theorem exchangeAf_unimplSeen (s : State) : (exchangeAf s).unimplSeen = s.unimplSeen := rfl
@[simp] theorem exchangeAf_unimplOp (s : State) : (exchangeAf s).unimplOp = s.unimplOp := rfl
@[simp] theorem exchangeAf_bus (s : State) : (exchangeAf s).bus = s.bus := rfl
@[simp] theorem exchangeAf_draws (s : State) : (exchangeAf s).draws = s.draws := rfl
@[simp] theorem exchangeAf_cfg (s : State) : (exchangeAf s).cfg = s.cfg := rfl

@[simp] theorem exchangeDeHl_regs (s : State) : (exchangeDeHl s).regs = { s.regs with d := s.regs.h, e := s.regs.l, h := s.regs.d, l := s.regs.e } := rfl
@[simp] theorem exchangeDeHl_mem (s : State) : (exchangeDeHl s).mem = s.mem := rfl
@[simp] theorem exchangeDeHl_ioIn (s : State) : (exchangeDeHl s).ioIn = s.ioIn := rfl
@[simp] theorem exchangeDeHl_ioTape (s : State) : (exchangeDeHl s).ioTape = s.ioTape := rfl
@[simp] theorem exchangeDeHl_memTape (s : State) : (exchangeDeHl s).memTape = s.memTape := rfl
@[simp] theorem exchangeDeHl_latch (s : State) : (exchangeDeHl s).latch = s.latch := rfl
@[simp] theorem exchangeDeHl_fields (s : State) : (exchangeDeHl s).fields = s.fields := rfl
@[simp] theorem exchangeDeHl_seq (s : State) : (exchangeDeHl s).seq = s.seq := rfl
@[simp] theorem exchangeDeHl_pins (s : State) : (exchangeDeHl s).pins = s.pins := rfl
@[simp] theorem exchangeDeHl_active (s : State) : (exchangeDeHl s).active = s.active := rfl
@[simp] theorem exchangeDeHl_resetLow (s : State) : (exchangeDeHl s).resetLow = s.resetLow := rfl
@[simp] theorem exchangeDeHl_resetCount (s : State) : (exchangeDeHl s).resetCount = s.resetCount := rfl
@[simp] theorem exchangeDeHl_halted (s : State) : (exchangeDeHl s).halted = s.halted := rfl
@[simp] theorem exchangeDeHl_unimplSeen (s : State) : (exchangeDeHl s).unimplSeen = s.unimplSeen := rfl
@[simp] theorem exchangeDeHl_unimplOp (s : State) : (exchangeDeHl s).unimplOp = s.unimplOp := rfl
@[simp] theorem exchangeDeHl_bus (s : State) : (exchangeDeHl s).bus = s.bus := rfl
@[simp] theorem exchangeDeHl_draws (s : State) : (exchangeDeHl s).draws = s.draws := rfl
@[simp] theorem exchangeDeHl_cfg (s : State) : (exchangeDeHl s).cfg = s.cfg := rfl

@[simp] theorem exchangeMain_mem (s : State) : (exchangeMain s).mem = s.mem := rfl
@[simp] theorem exchangeMain_ioIn (s : State) : (exchangeMain s).ioIn = s.ioIn := rfl
@[simp] theorem exchangeMain_ioTape (s : State) : (exchangeMain s).ioTape = s.ioTape := rfl
@[simp] theorem exchangeMain_memTape (s : State) : (exchangeMain s).memTape = s.memTape := rfl
@[simp] theorem exchangeMain_latch (s : State) : (exchangeMain s).latch = s.latch := rfl
@[simp] theorem exchangeMain_fields (s : State) : (exchangeMain s).fields = s.fields := rfl
@[simp] theorem exchangeMain_seq (s : State) : (exchangeMain s).seq = s.seq := rfl
@[simp] theorem exchangeMain_pins (s : State) : (exchangeMain s).pins = s.pins := rfl
@[simp] theorem exchangeMain_active (s : State) : (exchangeMain s).active = s.active := rfl
@[simp] theorem exchangeMain_resetLow (s : State) : (exchangeMain s).resetLow = s.resetLow := rfl
@[simp] theorem exchangeMain_resetCount (s : State) : (exchangeMain s).resetCount = s.resetCount := rfl
@[simp] theorem exchangeMain_halted (s : State) : (exchangeMain s).halted = s.halted := rfl
@[simp] theorem exchangeMain_unimplSeen (s : State) : (exchangeMain s).unimplSeen = s.unimplSeen := rfl
@[simp] theorem exchangeMain_unimplOp (s : State) : (exchangeMain s).unimplOp = s.unimplOp := rfl
@[simp] theorem exchangeMain_bus (s : State) : (exchangeMain s).bus = s.bus := rfl
@[simp] theorem exchangeMain_draws (s : State) : (exchangeMain s).draws = s.draws := rfl
@[simp] theorem exchangeMain_cfg (s : State) : (exchangeMain s).cfg = s.cfg := rfl

@[simp] theorem reqRead_regs (a : Word) (s : State) : (reqRead a s).regs = s.regs := rfl
@[simp] theorem reqRead_mem (a : Word) (s : State) : (reqRead a s).mem = s.mem := rfl
@[simp] theorem reqRead_ioIn (a : Word) (s : State) : (reqRead a s).ioIn = s.ioIn := rfl
@[simp] theorem reqRead_ioTape (a : Word) (s : State) : (reqRead a s).ioTape = s.ioTape := rfl
@[simp] theorem reqRead_memTape (a : Word) (s : State) : (reqRead a s).memTape = s.memTape := rfl
@[simp] theorem reqRead_latch (a : Word) (s : State) : (reqRead a s).latch = s.latch := rfl
@[simp] theorem reqRead_fields (a : Word) (s : State) : (reqRead a s).fields = s.fields := rfl
@[simp] theorem reqRead_seq (a : Word) (s : State) : (reqRead a s).seq = { s.seq with nextCycle := .read, nextAddr := a } := rfl
@[simp] theorem reqRead_pins (a : Word) (s : State) : (reqRead a s).pins = s.pins := rfl
@[simp] theorem reqRead_active (a : Word) (s : State) : (reqRead a s).active = s.active := rfl
@[simp] theorem reqRead_resetLow (a : Word) (s : State) : (reqRead a s).resetLow = s.resetLow := rfl
@[simp] theorem reqRead_resetCount (a : Word) (s : State) : (reqRead a s).resetCount = s.resetCount := rfl
@[simp] theorem reqRead_halted (a : Word) (s : State) : (reqRead a s).halted = s.halted := rfl
@[simp] theorem reqRead_unimplSeen (a : Word) (s : State) : (reqRead a s).unimplSeen = s.unimplSeen := rfl
@[simp] theorem reqRead_unimplOp (a : Word) (s : State) : (reqRead a s).unimplOp = s.unimplOp := rfl
@[simp] theorem reqRead_bus (a : Word) (s : State) : (reqRead a s).bus = s.bus := rfl
@[simp] theorem reqRead_draws (a : Word) (s : State) : (reqRead a s).draws = s.draws := rfl
@[simp] theorem reqRead_cfg (a : Word) (s : State) : (reqRead a s).cfg = s.cfg := rfl

@[simp] theorem reqWrite_regs (a : Word) (v : Byte) (s : State) : (reqWrite a v s).regs = s.regs := rfl
@[simp] theorem reqWrite_mem (a : Word) (v : Byte) (s : State) : (reqWrite a v s).mem = s.mem := rfl
@[simp] theorem reqWrite_ioIn (a : Word) (v : Byte) (s : State) : (reqWrite a v s).ioIn = s.ioIn := rfl
@[simp] theorem reqWrite_ioTape (a : Word) (v : Byte) (s : State) : (reqWrite a v s).ioTape = s.ioTape := rfl
@[simp] theorem reqWrite_memTape (a : Word) (v : Byte) (s : State) : (reqWrite a v s).memTape = s.memTape := rfl
@[simp] theorem reqWrite_latch (a : Word) (v : Byte) (s : State) : (reqWrite a v s).latch = s.latch := rfl
@[simp] theorem reqWrite_fields (a : Word) (v : Byte) (s : State) : (reqWrite a v s).fields = s.fields := rfl
@[simp] theorem reqWrite_seq (a : Word) (v : Byte) (s : State) : (reqWrite a v s).seq = { s.seq with nextCycle := .write, nextAddr := a, nextData := v } := rfl
@[simp] theorem reqWrite_pins (a : Word) (v : Byte) (s : State) : (reqWrite a v s).pins = s.pins := rfl
@[simp] theorem reqWrite_active (a : Word) (v : Byte) (s : State) : (reqWrite a v s).active = s.active := rfl
@[simp] theorem reqWrite_resetLow (a : Word) (v : Byte) (s : State) : (reqWrite a v s).resetLow = s.resetLow := rfl
@[simp] theorem reqWrite_resetCount (a : Word) (v : Byte) (s : State) : (reqWrite a v s).resetCount = s.resetCount := rfl
@[simp] theorem reqWrite_halted (a : Word) (v : Byte) (s : State) : (reqWrite a v s).halted = s.halted := rfl
@[simp] theorem reqWrite_unimplSeen (a : Word) (v : Byte) (s : State) : (reqWrite a v s).unimplSeen = s.unimplSeen := rfl
@[simp] theorem reqWrite_unimplOp (a : Word) (v : Byte) (s : State) : (reqWrite a v s).unimplOp = s.unimplOp := rfl
@[simp] theorem reqWrite_bus (a : Word) (v : Byte) (s : State) : (reqWrite a v s).bus = s.bus := rfl
@[simp] theorem reqWrite_draws (a : Word) (v : Byte) (s : State) : (reqWrite a v s).draws = s.draws := rfl
@[simp] theorem reqWrite_cfg (a : Word) (v : Byte) (s : State) : (reqWrite a v s).cfg = s.cfg := rfl

@[simp] theorem reqIoRead_regs (port : Word) (s : State) : (reqIoRead port s).regs = s.regs := rfl
@[simp] theorem reqIoRead_mem (port : Word) (s : State) : (reqIoRead port s).mem = s.mem := rfl
@[simp] theorem reqIoRead_ioIn (port : Word) (s : State) : (reqIoRead port s).ioIn = s.ioIn := rfl
@[simp] theorem reqIoRead_ioTape (port : Word) (s : State) : (reqIoRead port s).ioTape = s.ioTape := rfl
@[simp] theorem reqIoRead_memTape (port : Word) (s : State) : (reqIoRead port s).memTape = s.memTape := rfl
@[simp] theorem reqIoRead_latch (port : Word) (s : State) : (reqIoRead port s).latch = s.latch := rfl
@[simp] theorem reqIoRead_fields (port : Word) (s : State) : (reqIoRead port s).fields = s.fields := rfl
@[simp] theorem reqIoRead_seq (port : Word) (s : State) : (reqIoRead port s).seq = { s.seq with nextCycle := .ioRead, nextAddr := port } := rfl
@[simp] theorem reqIoRead_pins (port : Word) (s : State) : (reqIoRead port s).pins = s.pins := rfl
@[simp] theorem reqIoRead_active (port : Word) (s : State) : (reqIoRead port s).active = s.active := rfl
@[simp] theorem reqIoRead_resetLow (port : Word) (s : State) : (reqIoRead port s).resetLow = s.resetLow := rfl
@[simp] theorem reqIoRead_resetCount (port : Word) (s : State) : (reqIoRead port s).resetCount = s.resetCount := rfl
@[simp] theorem reqIoRead_halted (port : Word) (s : State) : (reqIoRead port s).halted = s.halted := rfl
@[simp] theorem reqIoRead_unimplSeen (port : Word) (s : State) : (reqIoRead port s).unimplSeen = s.unimplSeen := rfl
@[simp] theorem reqIoRead_unimplOp (port : Word) (s : State) : (reqIoRead port s).unimplOp = s.unimplOp := rfl
@[simp] theorem reqIoRead_bus (port : Word) (s : State) : (reqIoRead port s).bus = s.bus := rfl
@[simp] theorem reqIoRead_draws (port : Word) (s : State) : (reqIoRead port s).draws = s.draws := rfl
@[simp] theorem reqIoRead_cfg (port : Word) (s : State) : (reqIoRead port s).cfg = s.cfg := rfl

@[simp] theorem reqIoWrite_regs (port : Word) (v : Byte) (s : State) : (reqIoWrite port v s).regs = s.regs := rfl
@[simp] theorem reqIoWrite_mem (port : Word) (v : Byte) (s : State) : (reqIoWrite port v s).mem = s.mem := rfl
@[simp] theorem reqIoWrite_ioIn (port : Word) (v : Byte) (s : State) : (reqIoWrite port v s).ioIn = s.ioIn := rfl
@[simp] theorem reqIoWrite_ioTape (port : Word) (v : Byte) (s : State) : (reqIoWrite port v s).ioTape = s.ioTape := rfl
@[simp] theorem reqIoWrite_memTape (port : Word) (v : Byte) (s : State) : (reqIoWrite port v s).memTape = s.memTape := rfl
@[simp] theorem reqIoWrite_latch (port : Word) (v : Byte) (s : State) : (reqIoWrite port v s).latch = s.latch := rfl
@[simp] theorem reqIoWrite_fields (port : Word) (v : Byte) (s : State) : (reqIoWrite port v s).fields = s.fields := rfl
@[simp] theorem reqIoWrite_seq (port : Word) (v : Byte) (s : State) : (reqIoWrite port v s).seq = { s.seq with nextCycle := .ioWrite, nextAddr := port, nextData := v } := rfl
@[simp] theorem reqIoWrite_pins (port : Word) (v : Byte) (s : State) : (reqIoWrite port v s).pins = s.pins := rfl
@[simp] theorem reqIoWrite_active (port : Word) (v : Byte) (s : State) : (reqIoWrite port v s).active = s.active := rfl
@[simp] theorem reqIoWrite_resetLow (port : Word) (v : Byte) (s : State) : (reqIoWrite port v s).resetLow = s.resetLow := rfl
@[simp] theorem reqIoWrite_resetCount (port : Word) (v : Byte) (s : State) : (reqIoWrite port v s).resetCount = s.resetCount := rfl
@[simp] theorem reqIoWrite_halted (port : Word) (v : Byte) (s : State) : (reqIoWrite port v s).halted = s.halted := rfl
@[simp] theorem reqIoWrite_unimplSeen (port : Word) (v : Byte) (s : State) : (reqIoWrite port v s).unimplSeen = s.unimplSeen := rfl
@[simp] theorem reqIoWrite_unimplOp (port : Word) (v : Byte) (s : State) : (reqIoWrite port v s).unimplOp = s.unimplOp := rfl
@[simp] theorem reqIoWrite_bus (port : Word) (v : Byte) (s : State) : (reqIoWrite port v s).bus = s.bus := rfl
@[simp] theorem reqIoWrite_draws (port : Word) (v : Byte) (s : State) : (reqIoWrite port v s).draws = s.draws := rfl
@[simp] theorem reqIoWrite_cfg (port : Word) (v : Byte) (s : State) : (reqIoWrite port v s).cfg = s.cfg := rfl

@[simp] theorem reqExec_regs (n : Nat) (s : State) : (reqExec n s).regs = s.regs := rfl
@[simp] theorem reqExec_mem (n : Nat) (s : State) : (reqExec n s).mem = s.mem := rfl
@[simp] theorem reqExec_ioIn (n : Nat) (s : State) : (reqExec n s).ioIn = s.ioIn := rfl
@[simp] theorem reqExec_ioTape (n : Nat) (s : State) : (reqExec n s).ioTape = s.ioTape := rfl
@[simp] theorem reqExec_memTape (n : Nat) (s : State) : (reqExec n s).memTape = s.memTape := rfl
@[simp] theorem reqExec_latch (n : Nat) (s : State) : (reqExec n s).latch = s.latch := rfl
@[simp] theorem reqExec_fields (n : Nat) (s : State) : (reqExec n s).fields = s.fields := rfl
@[simp] theorem reqExec_seq (n : Nat) (s : State) : (reqExec n s).seq = { s.seq with nextCycle := .exec, nextLen := n } := rfl
@[simp] theorem reqExec_pins (n : Nat) (s : State) : (reqExec n s).pins = s.pins := rfl
@[simp] theorem reqExec_active (n : Nat) (s : State) : (reqExec n s).active = s.active := rfl
@[simp] theorem reqExec_resetLow (n : Nat) (s : State) : (reqExec n s).resetLow = s.resetLow := rfl
@[simp] theorem reqExec_resetCount (n : Nat) (s : State) : (reqExec n s).resetCount = s.resetCount := rfl
@[simp] theorem reqExec_halted (n : Nat) (s : State) : (reqExec n s).halted = s.halted := rfl
@[simp] theorem reqExec_unimplSeen (n : Nat) (s : State) : (reqExec n s).unimplSeen = s.unimplSeen := rfl
@[simp] theorem reqExec_unimplOp (n : Nat) (s : State) : (reqExec n s).unimplOp = s.unimplOp := rfl
@[simp] theorem reqExec_bus (n : Nat) (s : State) : (reqExec n s).bus = s.bus := rfl
@[simp] theorem reqExec_draws (n : Nat) (s : State) : (reqExec n s).draws = s.draws := rfl
@[simp] theorem reqExec_cfg (n : Nat) (s : State) : (reqExec n s).cfg = s.cfg := rfl

@[simp] theorem settle_regs (s : State) : (settle s).regs = s.regs := rfl
@[simp] theorem settle_mem (s : State) : (settle s).mem = s.mem := rfl
@[simp] theorem settle_ioIn (s : State) : (settle s).ioIn = s.ioIn := rfl
@[simp] theorem settle_ioTape (s : State) : (settle s).ioTape = s.ioTape := rfl
@[simp] theorem settle_memTape (s : State) : (settle s).memTape = s.memTape := rfl
@[simp] theorem settle_latch (s : State) : (settle s).latch = s.latch := rfl
@[simp] theorem settle_fields (s : State) : (settle s).fields = s.fields := rfl
@[simp] theorem settle_seq (s : State) : (settle s).seq = { s.seq with hold := false, holdLeft := 0, done := false } := rfl
@[simp] theorem settle_pins (s : State) : (settle s).pins = s.pins := rfl
@[simp] theorem settle_active (s : State) : (settle s).active = s.active := rfl
@[simp] theorem settle_resetLow (s : State) : (settle s).resetLow = s.resetLow := rfl
@[simp] theorem settle_resetCount (s : State) : (settle s).resetCount = s.resetCount := rfl
@[simp] theorem settle_halted (s : State) : (settle s).halted = s.halted := rfl
@[simp] theorem settle_unimplSeen (s : State) : (settle s).unimplSeen = s.unimplSeen := rfl
@[simp] theorem settle_unimplOp (s : State) : (settle s).unimplOp = s.unimplOp := rfl
@[simp] theorem settle_bus (s : State) : (settle s).bus = s.bus := rfl
@[simp] theorem settle_draws (s : State) : (settle s).draws = s.draws := rfl
@[simp] theorem settle_cfg (s : State) : (settle s).cfg = s.cfg := rfl

@[simp] theorem holdFor_regs (n : Nat) (s : State) : (holdFor n s).regs = s.regs := rfl
@[simp] theorem holdFor_mem (n : Nat) (s : State) : (holdFor n s).mem = s.mem := rfl
@[simp] theorem holdFor_ioIn (n : Nat) (s : State) : (holdFor n s).ioIn = s.ioIn := rfl
@[simp] theorem holdFor_ioTape (n : Nat) (s : State) : (holdFor n s).ioTape = s.ioTape := rfl
@[simp] theorem holdFor_memTape (n : Nat) (s : State) : (holdFor n s).memTape = s.memTape := rfl
@[simp] theorem holdFor_latch (n : Nat) (s : State) : (holdFor n s).latch = s.latch := rfl
@[simp] theorem holdFor_fields (n : Nat) (s : State) : (holdFor n s).fields = s.fields := rfl
@[simp] theorem holdFor_seq (n : Nat) (s : State) : (holdFor n s).seq = { s.seq with hold := true, holdLeft := 2 * n } := rfl
@[simp] theorem holdFor_pins (n : Nat) (s : State) : (holdFor n s).pins = s.pins := rfl
@[simp] theorem holdFor_active (n : Nat) (s : State) : (holdFor n s).active = s.active := rfl
@[simp] theorem holdFor_resetLow (n : Nat) (s : State) : (holdFor n s).resetLow = s.resetLow := rfl
@[simp] theorem holdFor_resetCount (n : Nat) (s : State) : (holdFor n s).resetCount = s.resetCount := rfl
@[simp] theorem holdFor_halted (n : Nat) (s : State) : (holdFor n s).halted = s.halted := rfl
@[simp] theorem holdFor_unimplSeen (n : Nat) (s : State) : (holdFor n s).unimplSeen = s.unimplSeen := rfl
@[simp] theorem holdFor_unimplOp (n : Nat) (s : State) : (holdFor n s).unimplOp = s.unimplOp := rfl
@[simp] theorem holdFor_bus (n : Nat) (s : State) : (holdFor n s).bus = lengthenLast n s.bus := rfl
@[simp] theorem holdFor_draws (n : Nat) (s : State) : (holdFor n s).draws = s.draws := rfl
@[simp] theorem holdFor_cfg (n : Nat) (s : State) : (holdFor n s).cfg = s.cfg := rfl

@[simp] theorem signalDone_regs (s : State) : (signalDone s).regs = { s.regs with wz := Config.freeLatch s.draws } := rfl
@[simp] theorem signalDone_mem (s : State) : (signalDone s).mem = s.mem := rfl
@[simp] theorem signalDone_ioIn (s : State) : (signalDone s).ioIn = s.ioIn := rfl
@[simp] theorem signalDone_ioTape (s : State) : (signalDone s).ioTape = s.ioTape := rfl
@[simp] theorem signalDone_memTape (s : State) : (signalDone s).memTape = s.memTape := rfl
@[simp] theorem signalDone_latch (s : State) : (signalDone s).latch = .none := rfl
@[simp] theorem signalDone_fields (s : State) : (signalDone s).fields = s.fields := rfl
@[simp] theorem signalDone_seq (s : State) : (signalDone s).seq = { s.seq with step := 0, done := true, nextCycle := .fetch } := rfl
@[simp] theorem signalDone_pins (s : State) : (signalDone s).pins = s.pins := rfl
@[simp] theorem signalDone_active (s : State) : (signalDone s).active = s.active := rfl
@[simp] theorem signalDone_resetLow (s : State) : (signalDone s).resetLow = s.resetLow := rfl
@[simp] theorem signalDone_resetCount (s : State) : (signalDone s).resetCount = s.resetCount := rfl
@[simp] theorem signalDone_halted (s : State) : (signalDone s).halted = s.halted := rfl
@[simp] theorem signalDone_unimplSeen (s : State) : (signalDone s).unimplSeen = s.unimplSeen := rfl
@[simp] theorem signalDone_unimplOp (s : State) : (signalDone s).unimplOp = s.unimplOp := rfl
@[simp] theorem signalDone_bus (s : State) : (signalDone s).bus = s.bus := rfl
@[simp] theorem signalDone_draws (s : State) : (signalDone s).draws = s.draws + 1 := rfl
@[simp] theorem signalDone_cfg (s : State) : (signalDone s).cfg = s.cfg := rfl

@[simp] theorem setLatch_regs (l : Latch) (s : State) : (setLatch l s).regs = s.regs := rfl
@[simp] theorem setLatch_mem (l : Latch) (s : State) : (setLatch l s).mem = s.mem := rfl
@[simp] theorem setLatch_ioIn (l : Latch) (s : State) : (setLatch l s).ioIn = s.ioIn := rfl
@[simp] theorem setLatch_ioTape (l : Latch) (s : State) : (setLatch l s).ioTape = s.ioTape := rfl
@[simp] theorem setLatch_memTape (l : Latch) (s : State) : (setLatch l s).memTape = s.memTape := rfl
@[simp] theorem setLatch_latch (l : Latch) (s : State) : (setLatch l s).latch = l := rfl
@[simp] theorem setLatch_fields (l : Latch) (s : State) : (setLatch l s).fields = s.fields := rfl
@[simp] theorem setLatch_seq (l : Latch) (s : State) : (setLatch l s).seq = s.seq := rfl
@[simp] theorem setLatch_pins (l : Latch) (s : State) : (setLatch l s).pins = s.pins := rfl
@[simp] theorem setLatch_active (l : Latch) (s : State) : (setLatch l s).active = s.active := rfl
@[simp] theorem setLatch_resetLow (l : Latch) (s : State) : (setLatch l s).resetLow = s.resetLow := rfl
@[simp] theorem setLatch_resetCount (l : Latch) (s : State) : (setLatch l s).resetCount = s.resetCount := rfl
@[simp] theorem setLatch_halted (l : Latch) (s : State) : (setLatch l s).halted = s.halted := rfl
@[simp] theorem setLatch_unimplSeen (l : Latch) (s : State) : (setLatch l s).unimplSeen = s.unimplSeen := rfl
@[simp] theorem setLatch_unimplOp (l : Latch) (s : State) : (setLatch l s).unimplOp = s.unimplOp := rfl
@[simp] theorem setLatch_bus (l : Latch) (s : State) : (setLatch l s).bus = s.bus := rfl
@[simp] theorem setLatch_draws (l : Latch) (s : State) : (setLatch l s).draws = s.draws := rfl
@[simp] theorem setLatch_cfg (l : Latch) (s : State) : (setLatch l s).cfg = s.cfg := rfl

@[simp] theorem setFields_regs (op : Byte) (s : State) : (setFields op s).regs = s.regs := rfl
@[simp] theorem setFields_mem (op : Byte) (s : State) : (setFields op s).mem = s.mem := rfl
@[simp] theorem setFields_ioIn (op : Byte) (s : State) : (setFields op s).ioIn = s.ioIn := rfl
@[simp] theorem setFields_ioTape (op : Byte) (s : State) : (setFields op s).ioTape = s.ioTape := rfl
@[simp] theorem setFields_memTape (op : Byte) (s : State) : (setFields op s).memTape = s.memTape := rfl
@[simp] theorem setFields_latch (op : Byte) (s : State) : (setFields op s).latch = s.latch := rfl
@[simp] theorem setFields_fields (op : Byte) (s : State) : (setFields op s).fields = fieldsOf op := rfl
@[simp] theorem setFields_seq (op : Byte) (s : State) : (setFields op s).seq = s.seq := rfl
@[simp] theorem setFields_pins (op : Byte) (s : State) : (setFields op s).pins = s.pins := rfl
@[simp] theorem setFields_active (op : Byte) (s : State) : (setFields op s).active = s.active := rfl
@[simp] theorem setFields_resetLow (op : Byte) (s : State) : (setFields op s).resetLow = s.resetLow := rfl
@[simp] theorem setFields_resetCount (op : Byte) (s : State) : (setFields op s).resetCount = s.resetCount := rfl
@[simp] theorem setFields_halted (op : Byte) (s : State) : (setFields op s).halted = s.halted := rfl
@[simp] theorem setFields_unimplSeen (op : Byte) (s : State) : (setFields op s).unimplSeen = s.unimplSeen := rfl
@[simp] theorem setFields_unimplOp (op : Byte) (s : State) : (setFields op s).unimplOp = s.unimplOp := rfl
@[simp] theorem setFields_bus (op : Byte) (s : State) : (setFields op s).bus = s.bus := rfl
@[simp] theorem setFields_draws (op : Byte) (s : State) : (setFields op s).draws = s.draws := rfl
@[simp] theorem setFields_cfg (op : Byte) (s : State) : (setFields op s).cfg = s.cfg := rfl

@[simp] theorem record_regs (kind : Cycle) (a : Word) (v : Byte) (n : Nat) (s : State) : (record kind a v n s).regs = s.regs := rfl
@[simp] theorem record_mem (kind : Cycle) (a : Word) (v : Byte) (n : Nat) (s : State) : (record kind a v n s).mem = s.mem := rfl
@[simp] theorem record_ioIn (kind : Cycle) (a : Word) (v : Byte) (n : Nat) (s : State) : (record kind a v n s).ioIn = s.ioIn := rfl
@[simp] theorem record_ioTape (kind : Cycle) (a : Word) (v : Byte) (n : Nat) (s : State) : (record kind a v n s).ioTape = s.ioTape := rfl
@[simp] theorem record_memTape (kind : Cycle) (a : Word) (v : Byte) (n : Nat) (s : State) : (record kind a v n s).memTape = s.memTape := rfl
@[simp] theorem record_latch (kind : Cycle) (a : Word) (v : Byte) (n : Nat) (s : State) : (record kind a v n s).latch = s.latch := rfl
@[simp] theorem record_fields (kind : Cycle) (a : Word) (v : Byte) (n : Nat) (s : State) : (record kind a v n s).fields = s.fields := rfl
@[simp] theorem record_seq (kind : Cycle) (a : Word) (v : Byte) (n : Nat) (s : State) : (record kind a v n s).seq = s.seq := rfl
@[simp] theorem record_pins (kind : Cycle) (a : Word) (v : Byte) (n : Nat) (s : State) : (record kind a v n s).pins = s.pins := rfl
@[simp] theorem record_active (kind : Cycle) (a : Word) (v : Byte) (n : Nat) (s : State) : (record kind a v n s).active = s.active := rfl
@[simp] theorem record_resetLow (kind : Cycle) (a : Word) (v : Byte) (n : Nat) (s : State) : (record kind a v n s).resetLow = s.resetLow := rfl
@[simp] theorem record_resetCount (kind : Cycle) (a : Word) (v : Byte) (n : Nat) (s : State) : (record kind a v n s).resetCount = s.resetCount := rfl
@[simp] theorem record_halted (kind : Cycle) (a : Word) (v : Byte) (n : Nat) (s : State) : (record kind a v n s).halted = s.halted := rfl
@[simp] theorem record_unimplSeen (kind : Cycle) (a : Word) (v : Byte) (n : Nat) (s : State) : (record kind a v n s).unimplSeen = s.unimplSeen := rfl
@[simp] theorem record_unimplOp (kind : Cycle) (a : Word) (v : Byte) (n : Nat) (s : State) : (record kind a v n s).unimplOp = s.unimplOp := rfl
@[simp] theorem record_bus (kind : Cycle) (a : Word) (v : Byte) (n : Nat) (s : State) : (record kind a v n s).bus = ⟨kind, a, v, n⟩ :: s.bus := rfl
@[simp] theorem record_draws (kind : Cycle) (a : Word) (v : Byte) (n : Nat) (s : State) : (record kind a v n s).draws = s.draws := rfl
@[simp] theorem record_cfg (kind : Cycle) (a : Word) (v : Byte) (n : Nat) (s : State) : (record kind a v n s).cfg = s.cfg := rfl

@[simp] theorem enterHalted_regs (s : State) : (enterHalted s).regs = s.regs := rfl
@[simp] theorem enterHalted_mem (s : State) : (enterHalted s).mem = s.mem := rfl
@[simp] theorem enterHalted_ioIn (s : State) : (enterHalted s).ioIn = s.ioIn := rfl
@[simp] theorem enterHalted_ioTape (s : State) : (enterHalted s).ioTape = s.ioTape := rfl
@[simp] theorem enterHalted_memTape (s : State) : (enterHalted s).memTape = s.memTape := rfl
@[simp] theorem enterHalted_latch (s : State) : (enterHalted s).latch = s.latch := rfl
@[simp] theorem enterHalted_fields (s : State) : (enterHalted s).fields = s.fields := rfl
@[simp] theorem enterHalted_seq (s : State) : (enterHalted s).seq = s.seq := rfl
@[simp] theorem enterHalted_pins (s : State) : (enterHalted s).pins = s.pins := rfl
@[simp] theorem enterHalted_active (s : State) : (enterHalted s).active = s.active := rfl
@[simp] theorem enterHalted_resetLow (s : State) : (enterHalted s).resetLow = s.resetLow := rfl
@[simp] theorem enterHalted_resetCount (s : State) : (enterHalted s).resetCount = s.resetCount := rfl
@[simp] theorem enterHalted_halted (s : State) : (enterHalted s).halted = true := rfl
@[simp] theorem enterHalted_unimplSeen (s : State) : (enterHalted s).unimplSeen = s.unimplSeen := rfl
@[simp] theorem enterHalted_unimplOp (s : State) : (enterHalted s).unimplOp = s.unimplOp := rfl
@[simp] theorem enterHalted_bus (s : State) : (enterHalted s).bus = s.bus := rfl
@[simp] theorem enterHalted_draws (s : State) : (enterHalted s).draws = s.draws := rfl
@[simp] theorem enterHalted_cfg (s : State) : (enterHalted s).cfg = s.cfg := rfl

@[simp] theorem advanceMem_regs (s : State) : (advanceMem s).regs = s.regs := rfl
@[simp] theorem advanceMem_mem (s : State) : (advanceMem s).mem = s.mem := rfl
@[simp] theorem advanceMem_ioIn (s : State) : (advanceMem s).ioIn = s.ioIn := rfl
@[simp] theorem advanceMem_ioTape (s : State) : (advanceMem s).ioTape = s.ioTape := rfl
@[simp] theorem advanceMem_memTape (s : State) : (advanceMem s).memTape = s.memTape.tail := rfl
@[simp] theorem advanceMem_latch (s : State) : (advanceMem s).latch = s.latch := rfl
@[simp] theorem advanceMem_fields (s : State) : (advanceMem s).fields = s.fields := rfl
@[simp] theorem advanceMem_seq (s : State) : (advanceMem s).seq = s.seq := rfl
@[simp] theorem advanceMem_pins (s : State) : (advanceMem s).pins = s.pins := rfl
@[simp] theorem advanceMem_active (s : State) : (advanceMem s).active = s.active := rfl
@[simp] theorem advanceMem_resetLow (s : State) : (advanceMem s).resetLow = s.resetLow := rfl
@[simp] theorem advanceMem_resetCount (s : State) : (advanceMem s).resetCount = s.resetCount := rfl
@[simp] theorem advanceMem_halted (s : State) : (advanceMem s).halted = s.halted := rfl
@[simp] theorem advanceMem_unimplSeen (s : State) : (advanceMem s).unimplSeen = s.unimplSeen := rfl
@[simp] theorem advanceMem_unimplOp (s : State) : (advanceMem s).unimplOp = s.unimplOp := rfl
@[simp] theorem advanceMem_bus (s : State) : (advanceMem s).bus = s.bus := rfl
@[simp] theorem advanceMem_draws (s : State) : (advanceMem s).draws = s.draws := rfl
@[simp] theorem advanceMem_cfg (s : State) : (advanceMem s).cfg = s.cfg := rfl

/-! ### Reading a register back -/

theorem getR_setR (r r' : R8) (v : Byte) (s : State) : getR r' (setR r v s) = if r' = r then v else getR r' s := by
  cases r <;> cases r' <;> rfl

@[simp] theorem getX_setX_self (xy : XY) (v : Word) (s : State) : getX xy (setX xy v s) = v := by
  cases xy <;> rfl

theorem mk16_toNat (hi lo : Byte) : (mk16 hi lo).toNat = hi.toNat * 256 + lo.toNat := by
  show (BitVec.append hi lo).toNat = _
  rw [show BitVec.append hi lo = hi ++ lo from rfl, BitVec.toNat_append,
    ← Nat.shiftLeft_add_eq_or_of_lt lo.isLt, Nat.shiftLeft_eq]
theorem hi8_toNat (w : Word) : (hi8 w).toNat = w.toNat / 256 % 256 := by
  simp [hi8, BitVec.extractLsb'_toNat, Nat.shiftRight_eq_div_pow]
theorem lo8_toNat (w : Word) : (lo8 w).toNat = w.toNat % 256 := by
  simp [lo8, BitVec.extractLsb'_toNat]
@[simp] theorem hi8_mk16 (hi lo : Byte) : hi8 (mk16 hi lo) = hi := by
  apply BitVec.eq_of_toNat_eq; rw [hi8_toNat, mk16_toNat]; omega
@[simp] theorem lo8_mk16 (hi lo : Byte) : lo8 (mk16 hi lo) = lo := by
  apply BitVec.eq_of_toNat_eq; rw [lo8_toNat, mk16_toNat]; omega
@[simp] theorem mk16_hi8_lo8 (w : Word) : mk16 (hi8 w) (lo8 w) = w := by
  apply BitVec.eq_of_toNat_eq; rw [mk16_toNat, lo8_toNat, hi8_toNat]; omega

/-- Writing a pair and reading it back (spec/10_state.md R100). -/
@[simp] theorem setBc_bc (v : Word) (s : State) : (setBc v s).bc = v := by simp [State.bc]
@[simp] theorem setDe_de (v : Word) (s : State) : (setDe v s).de = v := by simp [State.de]
@[simp] theorem setHl_hl (v : Word) (s : State) : (setHl v s).hl = v := by simp [State.hl]
@[simp] theorem setAf_af (v : Word) (s : State) : (setAf v s).af = v := by simp [State.af]

end Sys2Proof.Machine
end

