-- ==== Sys2Proof/Laws/Arch.lean ====
section
/-! SUPPORT. The architectural part of a state (`State.arch`) through every operation a step is made of, and through a
whole bus cycle: what erases, what commutes, what a cycle transacts. With these, the meaning of an instruction unfolds
step by step without unfolding a record update. -/

namespace Sys2Proof.Machine

/-! ### What `arch` keeps -/

/-- The transactions of a record as `State.arch` keeps them. -/
def erasedBus (es : List BusEvent) : List BusEvent :=
  (es.filter (fun e => e.kind != .exec)).map (fun e => { e with tStates := 0 })

theorem erasedBus_lengthenLast (n : Nat) (es : List BusEvent) : erasedBus (lengthenLast n es) = erasedBus es := by
  cases es with
  | nil => rfl
  | cons e es => by_cases h : e.kind = .exec <;> simp [erasedBus, lengthenLast, h]

theorem arch_bus (s : State) : s.arch.bus = erasedBus s.bus := rfl
@[simp] theorem arch_mem (s : State) : s.arch.mem = s.mem := rfl
@[simp] theorem arch_ioIn (s : State) : s.arch.ioIn = s.ioIn := rfl
@[simp] theorem arch_ioTape (s : State) : s.arch.ioTape = s.ioTape := rfl
@[simp] theorem arch_memTape (s : State) : s.arch.memTape = s.memTape := rfl
@[simp] theorem arch_latch (s : State) : s.arch.latch = s.latch := rfl
@[simp] theorem arch_active (s : State) : s.arch.active = s.active := rfl
@[simp] theorem arch_resetLow (s : State) : s.arch.resetLow = s.resetLow := rfl
@[simp] theorem arch_resetCount (s : State) : s.arch.resetCount = s.resetCount := rfl
@[simp] theorem arch_halted (s : State) : s.arch.halted = s.halted := rfl
@[simp] theorem arch_unimplSeen (s : State) : s.arch.unimplSeen = s.unimplSeen := rfl
@[simp] theorem arch_unimplOp (s : State) : s.arch.unimplOp = s.unimplOp := rfl
@[simp] theorem arch_cfg (s : State) : s.arch.cfg = s.cfg := rfl
@[simp] theorem arch_regs (s : State) : s.arch.regs = { s.regs with wz := 0 } := rfl

/-- Two states with the same `arch` agree on every field it keeps. -/
theorem arch_ext {s t : State} (regs : { s.regs with wz := 0 } = { t.regs with wz := 0 }) (mem : s.mem = t.mem)
    (ioIn : s.ioIn = t.ioIn) (ioTape : s.ioTape = t.ioTape) (memTape : s.memTape = t.memTape) (latch : s.latch = t.latch) (active : s.active = t.active)
    (resetLow : s.resetLow = t.resetLow) (resetCount : s.resetCount = t.resetCount) (halted : s.halted = t.halted)
    (unimplSeen : s.unimplSeen = t.unimplSeen) (unimplOp : s.unimplOp = t.unimplOp)
    (bus : erasedBus s.bus = erasedBus t.bus) (cfg : s.cfg = t.cfg) : s.arch = t.arch := by
  unfold State.arch erasedBus at *
  rw [regs, mem, ioIn, ioTape, memTape, latch, active, resetLow, resetCount, halted, unimplSeen, unimplOp, bus, cfg]

/-! ### What it erases -/

@[simp] theorem arch_settle (s : State) : (settle s).arch = s.arch := rfl
@[simp] theorem arch_setWz (v : Word) (s : State) : (setWz v s).arch = s.arch := rfl
@[simp] theorem arch_takeLow (s : State) : (takeLow s).arch = s.arch := rfl
@[simp] theorem arch_takeHigh (s : State) : (takeHigh s).arch = s.arch := rfl
@[simp] theorem arch_formAddress (xy : XY) (d : Byte) (s : State) : (formAddress xy d s).arch = s.arch := rfl
@[simp] theorem arch_setFields (op : Byte) (s : State) : (setFields op s).arch = s.arch := rfl
@[simp] theorem arch_reqRead (a : Word) (s : State) : (reqRead a s).arch = s.arch := rfl
@[simp] theorem arch_reqWrite (a : Word) (v : Byte) (s : State) : (reqWrite a v s).arch = s.arch := rfl
@[simp] theorem arch_reqIoRead (a : Word) (s : State) : (reqIoRead a s).arch = s.arch := rfl
@[simp] theorem arch_reqIoWrite (a : Word) (v : Byte) (s : State) : (reqIoWrite a v s).arch = s.arch := rfl
@[simp] theorem arch_reqExec (n : Nat) (s : State) : (reqExec n s).arch = s.arch := rfl
@[simp] theorem arch_holdFor (n : Nat) (s : State) : (holdFor n s).arch = s.arch :=
  arch_ext rfl rfl rfl rfl rfl rfl rfl rfl rfl rfl rfl rfl (erasedBus_lengthenLast n s.bus) rfl
@[simp] theorem arch_record_exec (a : Word) (v : Byte) (n : Nat) (s : State) : (record .exec a v n s).arch = s.arch := rfl
@[simp] theorem arch_signalDone (s : State) : (signalDone s).arch = (finished s).arch := rfl

/-! ### What commutes with it -/

/-- A state with its memory replaced. -/
def withMem (m : Memory) (s : State) : State := { s with mem := m }

@[simp] theorem arch_setAf (v : Word) (s : State) : (setAf v s).arch = setAf v s.arch := rfl
@[simp] theorem arch_setBc (v : Word) (s : State) : (setBc v s).arch = setBc v s.arch := rfl
@[simp] theorem arch_setDe (v : Word) (s : State) : (setDe v s).arch = setDe v s.arch := rfl
@[simp] theorem arch_setHl (v : Word) (s : State) : (setHl v s).arch = setHl v s.arch := rfl
@[simp] theorem arch_setPc (v : Word) (s : State) : (setPc v s).arch = setPc v s.arch := rfl
@[simp] theorem arch_setSp (v : Word) (s : State) : (setSp v s).arch = setSp v s.arch := rfl
@[simp] theorem arch_setI (v : Byte) (s : State) : (setI v s).arch = setI v s.arch := rfl
@[simp] theorem arch_setRefresh (v : Byte) (s : State) : (setRefresh v s).arch = setRefresh v s.arch := rfl
@[simp] theorem arch_setF (v : Byte) (s : State) : (setF v s).arch = setF v s.arch := rfl
@[simp] theorem arch_setR (r : R8) (v : Byte) (s : State) : (setR r v s).arch = setR r v s.arch := by cases r <;> rfl
@[simp] theorem arch_setRp (rp : RP) (v : Word) (s : State) : (setRp rp v s).arch = setRp rp v s.arch := by cases rp <;> rfl
@[simp] theorem arch_setRp2 (rp2 : RP2) (v : Word) (s : State) : (setRp2 rp2 v s).arch = setRp2 rp2 v s.arch := by cases rp2 <;> rfl
@[simp] theorem arch_setX (xy : XY) (v : Word) (s : State) : (setX xy v s).arch = setX xy v s.arch := by cases xy <;> rfl
@[simp] theorem arch_setHalf (xy : XY) (k : Half) (v : Byte) (s : State) : (setHalf xy k v s).arch = setHalf xy k v s.arch := by cases xy <;> cases k <;> rfl
@[simp] theorem arch_setRX (xy : XY) (r : R8) (v : Byte) (s : State) : (setRX xy r v s).arch = setRX xy r v s.arch := by cases xy <;> cases r <;> rfl
@[simp] theorem arch_restoreIff (s : State) : (restoreIff s).arch = restoreIff s.arch := rfl
@[simp] theorem arch_enterHalted (s : State) : (enterHalted s).arch = enterHalted s.arch := rfl
@[simp] theorem arch_setLatch (l : Latch) (s : State) : (setLatch l s).arch = setLatch l s.arch := rfl
@[simp] theorem arch_finished (s : State) : (finished s).arch = finished s.arch := rfl
@[simp] theorem arch_exchangeAf (s : State) : (exchangeAf s).arch = exchangeAf s.arch := rfl
@[simp] theorem arch_exchangeDeHl (s : State) : (exchangeDeHl s).arch = exchangeDeHl s.arch := rfl
@[simp] theorem arch_exchangeMain (s : State) : (exchangeMain s).arch = exchangeMain s.arch := rfl
@[simp] theorem arch_withMem (m : Memory) (s : State) : (withMem m s).arch = withMem m s.arch := rfl
@[simp] theorem arch_advanceMem (s : State) : (advanceMem s).arch = advanceMem s.arch := rfl
@[simp] theorem arch_record (k : Cycle) (h : k ≠ .exec) (a : Word) (v : Byte) (n : Nat) (s : State) :
    (record k a v n s).arch = record k a v 0 s.arch := by
  cases k <;> first | rfl | exact absurd rfl h

@[simp] theorem arch_af (s : State) : s.arch.af = s.af := rfl
@[simp] theorem arch_bc (s : State) : s.arch.bc = s.bc := rfl
@[simp] theorem arch_de (s : State) : s.arch.de = s.de := rfl
@[simp] theorem arch_hl (s : State) : s.arch.hl = s.hl := rfl
@[simp] theorem getR_arch (r : R8) (s : State) : getR r s.arch = getR r s := by cases r <;> rfl
@[simp] theorem getRp_arch (rp : RP) (s : State) : getRp rp s.arch = getRp rp s := by cases rp <;> rfl
@[simp] theorem getRp2_arch (rp2 : RP2) (s : State) : getRp2 rp2 s.arch = getRp2 rp2 s := by cases rp2 <;> rfl
@[simp] theorem getX_arch (xy : XY) (s : State) : getX xy s.arch = getX xy s := by cases xy <;> rfl
@[simp] theorem getHalf_arch (xy : XY) (k : Half) (s : State) : getHalf xy k s.arch = getHalf xy k s := by cases xy <;> cases k <;> rfl
@[simp] theorem getRX_arch (xy : XY) (r : R8) (s : State) : getRX xy r s.arch = getRX xy r s := by cases xy <;> cases r <;> rfl
@[simp] theorem getRpX_arch (xy : XY) (rp : RP) (s : State) : getRpX xy rp s.arch = getRpX xy rp s := by cases xy <;> cases rp <;> rfl
@[simp] theorem indexAddress_arch (xy : XY) (d : Byte) (s : State) : indexAddress xy d s.arch = indexAddress xy d s := by
  cases xy <;> rfl

/-! ### A bus cycle (spec/20_memory.md R238) -/

@[simp] theorem cycle_read_arch (a : Word) (s : State) : (busCycle (reqRead a s)).arch = (readBy a s).arch := rfl
@[simp] theorem cycle_read_regs (a : Word) (s : State) : (busCycle (reqRead a s)).regs = s.regs := rfl
@[simp] theorem cycle_read_cfg (a : Word) (s : State) : (busCycle (reqRead a s)).cfg = s.cfg := rfl
@[simp] theorem cycle_read_draws (a : Word) (s : State) : (busCycle (reqRead a s)).draws = s.draws := rfl
@[simp] theorem cycle_read_latch (a : Word) (s : State) : (busCycle (reqRead a s)).latch = s.latch := rfl
@[simp] theorem cycle_read_ioIn (a : Word) (s : State) : (busCycle (reqRead a s)).ioIn = s.ioIn := rfl
@[simp] theorem cycle_read_mem (a : Word) (s : State) : (busCycle (reqRead a s)).mem = s.mem := rfl
@[simp] theorem cycle_read_dataIn (a : Word) (s : State) : (busCycle (reqRead a s)).seq.dataIn = memAnswer a s := rfl
@[simp] theorem cycle_read_bus (a : Word) (s : State) : (busCycle (reqRead a s)).bus = ⟨.read, a, memAnswer a s, 3⟩ :: s.bus := rfl
@[simp] theorem cycle_read_done (a : Word) (s : State) : (busCycle (reqRead a s)).seq.done = false := rfl
@[simp] theorem cycle_write_arch (a : Word) (v : Byte) (s : State) : (busCycle (reqWrite a v s)).arch = (record .write a v 3 (withMem (s.mem.write a v) s)).arch := rfl
@[simp] theorem cycle_write_regs (a : Word) (v : Byte) (s : State) : (busCycle (reqWrite a v s)).regs = s.regs := rfl
@[simp] theorem cycle_write_cfg (a : Word) (v : Byte) (s : State) : (busCycle (reqWrite a v s)).cfg = s.cfg := rfl
@[simp] theorem cycle_write_draws (a : Word) (v : Byte) (s : State) : (busCycle (reqWrite a v s)).draws = s.draws := rfl
@[simp] theorem cycle_write_latch (a : Word) (v : Byte) (s : State) : (busCycle (reqWrite a v s)).latch = s.latch := rfl
@[simp] theorem cycle_write_ioIn (a : Word) (v : Byte) (s : State) : (busCycle (reqWrite a v s)).ioIn = s.ioIn := rfl
@[simp] theorem cycle_write_mem (a : Word) (v : Byte) (s : State) : (busCycle (reqWrite a v s)).mem = s.mem.write a v := rfl
@[simp] theorem cycle_write_dataIn (a : Word) (v : Byte) (s : State) : (busCycle (reqWrite a v s)).seq.dataIn = s.seq.dataIn := rfl
@[simp] theorem cycle_write_bus (a : Word) (v : Byte) (s : State) : (busCycle (reqWrite a v s)).bus = ⟨.write, a, v, 3⟩ :: s.bus := rfl
@[simp] theorem cycle_write_done (a : Word) (v : Byte) (s : State) : (busCycle (reqWrite a v s)).seq.done = false := rfl
@[simp] theorem cycle_write_nextData (a : Word) (v : Byte) (s : State) : (busCycle (reqWrite a v s)).seq.nextData = v := rfl
@[simp] theorem cycle_ioRead_arch (a : Word) (s : State) : (busCycle (reqIoRead a s)).arch = (answeredBy a s).arch := rfl
@[simp] theorem cycle_ioRead_regs (a : Word) (s : State) : (busCycle (reqIoRead a s)).regs = s.regs := rfl
@[simp] theorem cycle_ioRead_cfg (a : Word) (s : State) : (busCycle (reqIoRead a s)).cfg = s.cfg := rfl
@[simp] theorem cycle_ioRead_draws (a : Word) (s : State) : (busCycle (reqIoRead a s)).draws = s.draws := rfl
@[simp] theorem cycle_ioRead_latch (a : Word) (s : State) : (busCycle (reqIoRead a s)).latch = s.latch := rfl
@[simp] theorem cycle_ioRead_ioIn (a : Word) (s : State) : (busCycle (reqIoRead a s)).ioIn = s.ioIn := rfl
@[simp] theorem cycle_ioRead_mem (a : Word) (s : State) : (busCycle (reqIoRead a s)).mem = s.mem := rfl
@[simp] theorem cycle_ioRead_dataIn (a : Word) (s : State) : (busCycle (reqIoRead a s)).seq.dataIn = portAnswer a s := rfl
@[simp] theorem cycle_ioRead_bus (a : Word) (s : State) : (busCycle (reqIoRead a s)).bus = ⟨.ioRead, a, portAnswer a s, 4⟩ :: s.bus := rfl
@[simp] theorem cycle_ioRead_done (a : Word) (s : State) : (busCycle (reqIoRead a s)).seq.done = false := rfl
@[simp] theorem cycle_ioWrite_arch (a : Word) (v : Byte) (s : State) : (busCycle (reqIoWrite a v s)).arch = (record .ioWrite a v 4 s).arch := rfl
@[simp] theorem cycle_ioWrite_regs (a : Word) (v : Byte) (s : State) : (busCycle (reqIoWrite a v s)).regs = s.regs := rfl
@[simp] theorem cycle_ioWrite_cfg (a : Word) (v : Byte) (s : State) : (busCycle (reqIoWrite a v s)).cfg = s.cfg := rfl
@[simp] theorem cycle_ioWrite_draws (a : Word) (v : Byte) (s : State) : (busCycle (reqIoWrite a v s)).draws = s.draws := rfl
@[simp] theorem cycle_ioWrite_latch (a : Word) (v : Byte) (s : State) : (busCycle (reqIoWrite a v s)).latch = s.latch := rfl
@[simp] theorem cycle_ioWrite_ioIn (a : Word) (v : Byte) (s : State) : (busCycle (reqIoWrite a v s)).ioIn = s.ioIn := rfl
@[simp] theorem cycle_ioWrite_mem (a : Word) (v : Byte) (s : State) : (busCycle (reqIoWrite a v s)).mem = s.mem := rfl
@[simp] theorem cycle_ioWrite_dataIn (a : Word) (v : Byte) (s : State) : (busCycle (reqIoWrite a v s)).seq.dataIn = s.seq.dataIn := rfl
@[simp] theorem cycle_ioWrite_bus (a : Word) (v : Byte) (s : State) : (busCycle (reqIoWrite a v s)).bus = ⟨.ioWrite, a, v, 4⟩ :: s.bus := rfl
@[simp] theorem cycle_ioWrite_done (a : Word) (v : Byte) (s : State) : (busCycle (reqIoWrite a v s)).seq.done = false := rfl
@[simp] theorem cycle_exec_arch (n : Nat) (s : State) : (busCycle (reqExec n s)).arch = (s).arch := rfl
@[simp] theorem cycle_exec_regs (n : Nat) (s : State) : (busCycle (reqExec n s)).regs = s.regs := rfl
@[simp] theorem cycle_exec_cfg (n : Nat) (s : State) : (busCycle (reqExec n s)).cfg = s.cfg := rfl
@[simp] theorem cycle_exec_draws (n : Nat) (s : State) : (busCycle (reqExec n s)).draws = s.draws := rfl
@[simp] theorem cycle_exec_latch (n : Nat) (s : State) : (busCycle (reqExec n s)).latch = s.latch := rfl
@[simp] theorem cycle_exec_ioIn (n : Nat) (s : State) : (busCycle (reqExec n s)).ioIn = s.ioIn := rfl
@[simp] theorem cycle_exec_mem (n : Nat) (s : State) : (busCycle (reqExec n s)).mem = s.mem := rfl
@[simp] theorem cycle_exec_dataIn (n : Nat) (s : State) : (busCycle (reqExec n s)).seq.dataIn = s.seq.dataIn := rfl
@[simp] theorem cycle_exec_bus (n : Nat) (s : State) : (busCycle (reqExec n s)).bus = ⟨.exec, 0, 0, n⟩ :: s.bus := rfl
@[simp] theorem cycle_exec_done (n : Nat) (s : State) : (busCycle (reqExec n s)).seq.done = false := rfl

/-! ### What a read is answered (spec/20_memory.md R200) -/

/-- The answer rests on memory and the tape alone. -/
theorem memAnswer_congr {s t : State} (mem : s.mem = t.mem) (memTape : s.memTape = t.memTape) (a : Word) :
    memAnswer a s = memAnswer a t := by
  unfold memAnswer
  rw [mem, memTape]

/-- On plain RAM the answer is the byte in memory. -/
theorem memAnswer_ram {s : State} (h : s.memTape = []) (a : Word) : memAnswer a s = s.mem.read a := by
  unfold memAnswer
  rw [h]

@[simp] theorem upcoming_zero (a : Word) (s : State) : upcoming 0 a s = memAnswer a s := rfl
@[simp] theorem upcoming_advanceMem (k : Nat) (a : Word) (s : State) :
    upcoming k a (advanceMem s) = upcoming (k + 1) a s := by
  simp only [upcoming, advanceMem, List.drop_tail]

/-- The second read from now. -/
@[simp] theorem memAnswer_advanceMem (a : Word) (s : State) : memAnswer a (advanceMem s) = upcoming 1 a s :=
  upcoming_advanceMem 0 a s

@[simp] theorem memAnswer_settle (a : Word) (s : State) : memAnswer a (settle s) = memAnswer a s := rfl
@[simp] theorem upcoming_settle (k : Nat) (a : Word) (s : State) : upcoming k a (settle s) = upcoming k a s := rfl
@[simp] theorem memAnswer_setWz (a : Word) (w : Word) (s : State) : memAnswer a (setWz w s) = memAnswer a s := rfl
@[simp] theorem upcoming_setWz (k : Nat) (a : Word) (w : Word) (s : State) : upcoming k a (setWz w s) = upcoming k a s := rfl
@[simp] theorem memAnswer_takeLow (a : Word) (s : State) : memAnswer a (takeLow s) = memAnswer a s := rfl
@[simp] theorem upcoming_takeLow (k : Nat) (a : Word) (s : State) : upcoming k a (takeLow s) = upcoming k a s := rfl
@[simp] theorem memAnswer_takeHigh (a : Word) (s : State) : memAnswer a (takeHigh s) = memAnswer a s := rfl
@[simp] theorem upcoming_takeHigh (k : Nat) (a : Word) (s : State) : upcoming k a (takeHigh s) = upcoming k a s := rfl
@[simp] theorem memAnswer_formAddress (a : Word) (xy : XY) (d : Byte) (s : State) : memAnswer a (formAddress xy d s) = memAnswer a s := rfl
@[simp] theorem upcoming_formAddress (k : Nat) (a : Word) (xy : XY) (d : Byte) (s : State) : upcoming k a (formAddress xy d s) = upcoming k a s := rfl
@[simp] theorem memAnswer_holdFor (a : Word) (n : Nat) (s : State) : memAnswer a (holdFor n s) = memAnswer a s := rfl
@[simp] theorem upcoming_holdFor (k : Nat) (a : Word) (n : Nat) (s : State) : upcoming k a (holdFor n s) = upcoming k a s := rfl
@[simp] theorem memAnswer_setF (a : Word) (v : Byte) (s : State) : memAnswer a (setF v s) = memAnswer a s := rfl
@[simp] theorem upcoming_setF (k : Nat) (a : Word) (v : Byte) (s : State) : upcoming k a (setF v s) = upcoming k a s := rfl
@[simp] theorem memAnswer_setPc (a : Word) (v : Word) (s : State) : memAnswer a (setPc v s) = memAnswer a s := rfl
@[simp] theorem upcoming_setPc (k : Nat) (a : Word) (v : Word) (s : State) : upcoming k a (setPc v s) = upcoming k a s := rfl
@[simp] theorem memAnswer_setSp (a : Word) (v : Word) (s : State) : memAnswer a (setSp v s) = memAnswer a s := rfl
@[simp] theorem upcoming_setSp (k : Nat) (a : Word) (v : Word) (s : State) : upcoming k a (setSp v s) = upcoming k a s := rfl
@[simp] theorem memAnswer_record (a : Word) (k : Cycle) (b : Word) (v : Byte) (n : Nat) (s : State) : memAnswer a (record k b v n s) = memAnswer a s := rfl
@[simp] theorem upcoming_record (k : Nat) (a : Word) (kind : Cycle) (b : Word) (v : Byte) (n : Nat) (s : State) : upcoming k a (record kind b v n s) = upcoming k a s := rfl
@[simp] theorem memAnswer_arch (a : Word) (s : State) : memAnswer a (s.arch) = memAnswer a s := rfl
@[simp] theorem upcoming_arch (k : Nat) (a : Word) (s : State) : upcoming k a (s.arch) = upcoming k a s := rfl
@[simp] theorem memAnswer_cycle_exec (a : Word) (n : Nat) (s : State) : memAnswer a (busCycle (reqExec n s)) = memAnswer a s := rfl
@[simp] theorem upcoming_cycle_exec (k : Nat) (a : Word) (n : Nat) (s : State) : upcoming k a (busCycle (reqExec n s)) = upcoming k a s := rfl
@[simp] theorem memAnswer_cycle_read (a b : Word) (s : State) :
    memAnswer a (busCycle (reqRead b s)) = upcoming 1 a s := memAnswer_advanceMem a s
@[simp] theorem memAnswer_readBy (a b : Word) (s : State) : memAnswer a (readBy b s) = upcoming 1 a s := memAnswer_advanceMem a s

/-! ### What an operand reads through the operations that touch no register but WZ -/

@[simp] theorem settle_af (s : State) : (settle s).af = s.af := rfl
@[simp] theorem settle_bc (s : State) : (settle s).bc = s.bc := rfl
@[simp] theorem settle_de (s : State) : (settle s).de = s.de := rfl
@[simp] theorem settle_hl (s : State) : (settle s).hl = s.hl := rfl
@[simp] theorem getR_settle (r : R8) (s : State) :
    getR r (settle s) = getR r s := by cases r <;> rfl
@[simp] theorem getRp_settle (rp : RP) (s : State) :
    getRp rp (settle s) = getRp rp s := by cases rp <;> rfl
@[simp] theorem getRp2_settle (rp2 : RP2) (s : State) :
    getRp2 rp2 (settle s) = getRp2 rp2 s := by cases rp2 <;> rfl
@[simp] theorem getX_settle (xy : XY) (s : State) :
    getX xy (settle s) = getX xy s := by cases xy <;> rfl
@[simp] theorem getHalf_settle (xy : XY) (k : Half) (s : State) :
    getHalf xy k (settle s) = getHalf xy k s := by cases xy <;> cases k <;> rfl
@[simp] theorem getRX_settle (xy : XY) (r : R8) (s : State) :
    getRX xy r (settle s) = getRX xy r s := by cases xy <;> cases r <;> rfl
@[simp] theorem getRpX_settle (xy : XY) (rp : RP) (s : State) :
    getRpX xy rp (settle s) = getRpX xy rp s := by cases xy <;> cases rp <;> rfl
@[simp] theorem indexAddress_settle (xy : XY) (d : Byte) (s : State) :
    indexAddress xy d (settle s) = indexAddress xy d s := by cases xy <;> rfl

@[simp] theorem setWz_af (w : Word) (s : State) : (setWz w s).af = s.af := rfl
@[simp] theorem setWz_bc (w : Word) (s : State) : (setWz w s).bc = s.bc := rfl
@[simp] theorem setWz_de (w : Word) (s : State) : (setWz w s).de = s.de := rfl
@[simp] theorem setWz_hl (w : Word) (s : State) : (setWz w s).hl = s.hl := rfl
@[simp] theorem getR_setWz (w : Word) (r : R8) (s : State) :
    getR r (setWz w s) = getR r s := by cases r <;> rfl
@[simp] theorem getRp_setWz (w : Word) (rp : RP) (s : State) :
    getRp rp (setWz w s) = getRp rp s := by cases rp <;> rfl
@[simp] theorem getRp2_setWz (w : Word) (rp2 : RP2) (s : State) :
    getRp2 rp2 (setWz w s) = getRp2 rp2 s := by cases rp2 <;> rfl
@[simp] theorem getX_setWz (w : Word) (xy : XY) (s : State) :
    getX xy (setWz w s) = getX xy s := by cases xy <;> rfl
@[simp] theorem getHalf_setWz (w : Word) (xy : XY) (k : Half) (s : State) :
    getHalf xy k (setWz w s) = getHalf xy k s := by cases xy <;> cases k <;> rfl
@[simp] theorem getRX_setWz (w : Word) (xy : XY) (r : R8) (s : State) :
    getRX xy r (setWz w s) = getRX xy r s := by cases xy <;> cases r <;> rfl
@[simp] theorem getRpX_setWz (w : Word) (xy : XY) (rp : RP) (s : State) :
    getRpX xy rp (setWz w s) = getRpX xy rp s := by cases xy <;> cases rp <;> rfl
@[simp] theorem indexAddress_setWz (w : Word) (xy : XY) (d : Byte) (s : State) :
    indexAddress xy d (setWz w s) = indexAddress xy d s := by cases xy <;> rfl

@[simp] theorem holdFor_af (n : Nat) (s : State) : (holdFor n s).af = s.af := rfl
@[simp] theorem holdFor_bc (n : Nat) (s : State) : (holdFor n s).bc = s.bc := rfl
@[simp] theorem holdFor_de (n : Nat) (s : State) : (holdFor n s).de = s.de := rfl
@[simp] theorem holdFor_hl (n : Nat) (s : State) : (holdFor n s).hl = s.hl := rfl
@[simp] theorem getR_holdFor (n : Nat) (r : R8) (s : State) :
    getR r (holdFor n s) = getR r s := by cases r <;> rfl
@[simp] theorem getRp_holdFor (n : Nat) (rp : RP) (s : State) :
    getRp rp (holdFor n s) = getRp rp s := by cases rp <;> rfl
@[simp] theorem getRp2_holdFor (n : Nat) (rp2 : RP2) (s : State) :
    getRp2 rp2 (holdFor n s) = getRp2 rp2 s := by cases rp2 <;> rfl
@[simp] theorem getX_holdFor (n : Nat) (xy : XY) (s : State) :
    getX xy (holdFor n s) = getX xy s := by cases xy <;> rfl
@[simp] theorem getHalf_holdFor (n : Nat) (xy : XY) (k : Half) (s : State) :
    getHalf xy k (holdFor n s) = getHalf xy k s := by cases xy <;> cases k <;> rfl
@[simp] theorem getRX_holdFor (n : Nat) (xy : XY) (r : R8) (s : State) :
    getRX xy r (holdFor n s) = getRX xy r s := by cases xy <;> cases r <;> rfl
@[simp] theorem getRpX_holdFor (n : Nat) (xy : XY) (rp : RP) (s : State) :
    getRpX xy rp (holdFor n s) = getRpX xy rp s := by cases xy <;> cases rp <;> rfl
@[simp] theorem indexAddress_holdFor (n : Nat) (xy : XY) (d : Byte) (s : State) :
    indexAddress xy d (holdFor n s) = indexAddress xy d s := by cases xy <;> rfl

@[simp] theorem cycle_read_af (a : Word) (s : State) : (busCycle (reqRead a s)).af = s.af := rfl
@[simp] theorem cycle_read_bc (a : Word) (s : State) : (busCycle (reqRead a s)).bc = s.bc := rfl
@[simp] theorem cycle_read_de (a : Word) (s : State) : (busCycle (reqRead a s)).de = s.de := rfl
@[simp] theorem cycle_read_hl (a : Word) (s : State) : (busCycle (reqRead a s)).hl = s.hl := rfl
@[simp] theorem getR_cycle_read (a : Word) (r : R8) (s : State) :
    getR r (busCycle (reqRead a s)) = getR r s := by cases r <;> rfl
@[simp] theorem getRp_cycle_read (a : Word) (rp : RP) (s : State) :
    getRp rp (busCycle (reqRead a s)) = getRp rp s := by cases rp <;> rfl
@[simp] theorem getRp2_cycle_read (a : Word) (rp2 : RP2) (s : State) :
    getRp2 rp2 (busCycle (reqRead a s)) = getRp2 rp2 s := by cases rp2 <;> rfl
@[simp] theorem getX_cycle_read (a : Word) (xy : XY) (s : State) :
    getX xy (busCycle (reqRead a s)) = getX xy s := by cases xy <;> rfl
@[simp] theorem getHalf_cycle_read (a : Word) (xy : XY) (k : Half) (s : State) :
    getHalf xy k (busCycle (reqRead a s)) = getHalf xy k s := by cases xy <;> cases k <;> rfl
@[simp] theorem getRX_cycle_read (a : Word) (xy : XY) (r : R8) (s : State) :
    getRX xy r (busCycle (reqRead a s)) = getRX xy r s := by cases xy <;> cases r <;> rfl
@[simp] theorem getRpX_cycle_read (a : Word) (xy : XY) (rp : RP) (s : State) :
    getRpX xy rp (busCycle (reqRead a s)) = getRpX xy rp s := by cases xy <;> cases rp <;> rfl
@[simp] theorem indexAddress_cycle_read (a : Word) (xy : XY) (d : Byte) (s : State) :
    indexAddress xy d (busCycle (reqRead a s)) = indexAddress xy d s := by cases xy <;> rfl

@[simp] theorem cycle_write_af (a : Word) (v : Byte) (s : State) : (busCycle (reqWrite a v s)).af = s.af := rfl
@[simp] theorem cycle_write_bc (a : Word) (v : Byte) (s : State) : (busCycle (reqWrite a v s)).bc = s.bc := rfl
@[simp] theorem cycle_write_de (a : Word) (v : Byte) (s : State) : (busCycle (reqWrite a v s)).de = s.de := rfl
@[simp] theorem cycle_write_hl (a : Word) (v : Byte) (s : State) : (busCycle (reqWrite a v s)).hl = s.hl := rfl
@[simp] theorem getR_cycle_write (a : Word) (v : Byte) (r : R8) (s : State) :
    getR r (busCycle (reqWrite a v s)) = getR r s := by cases r <;> rfl
@[simp] theorem getRp_cycle_write (a : Word) (v : Byte) (rp : RP) (s : State) :
    getRp rp (busCycle (reqWrite a v s)) = getRp rp s := by cases rp <;> rfl
@[simp] theorem getRp2_cycle_write (a : Word) (v : Byte) (rp2 : RP2) (s : State) :
    getRp2 rp2 (busCycle (reqWrite a v s)) = getRp2 rp2 s := by cases rp2 <;> rfl
@[simp] theorem getX_cycle_write (a : Word) (v : Byte) (xy : XY) (s : State) :
    getX xy (busCycle (reqWrite a v s)) = getX xy s := by cases xy <;> rfl
@[simp] theorem getHalf_cycle_write (a : Word) (v : Byte) (xy : XY) (k : Half) (s : State) :
    getHalf xy k (busCycle (reqWrite a v s)) = getHalf xy k s := by cases xy <;> cases k <;> rfl
@[simp] theorem getRX_cycle_write (a : Word) (v : Byte) (xy : XY) (r : R8) (s : State) :
    getRX xy r (busCycle (reqWrite a v s)) = getRX xy r s := by cases xy <;> cases r <;> rfl
@[simp] theorem getRpX_cycle_write (a : Word) (v : Byte) (xy : XY) (rp : RP) (s : State) :
    getRpX xy rp (busCycle (reqWrite a v s)) = getRpX xy rp s := by cases xy <;> cases rp <;> rfl
@[simp] theorem indexAddress_cycle_write (a : Word) (v : Byte) (xy : XY) (d : Byte) (s : State) :
    indexAddress xy d (busCycle (reqWrite a v s)) = indexAddress xy d s := by cases xy <;> rfl

@[simp] theorem cycle_ioRead_af (a : Word) (s : State) : (busCycle (reqIoRead a s)).af = s.af := rfl
@[simp] theorem cycle_ioRead_bc (a : Word) (s : State) : (busCycle (reqIoRead a s)).bc = s.bc := rfl
@[simp] theorem cycle_ioRead_de (a : Word) (s : State) : (busCycle (reqIoRead a s)).de = s.de := rfl
@[simp] theorem cycle_ioRead_hl (a : Word) (s : State) : (busCycle (reqIoRead a s)).hl = s.hl := rfl
@[simp] theorem getR_cycle_ioRead (a : Word) (r : R8) (s : State) :
    getR r (busCycle (reqIoRead a s)) = getR r s := by cases r <;> rfl
@[simp] theorem getRp_cycle_ioRead (a : Word) (rp : RP) (s : State) :
    getRp rp (busCycle (reqIoRead a s)) = getRp rp s := by cases rp <;> rfl
@[simp] theorem getRp2_cycle_ioRead (a : Word) (rp2 : RP2) (s : State) :
    getRp2 rp2 (busCycle (reqIoRead a s)) = getRp2 rp2 s := by cases rp2 <;> rfl
@[simp] theorem getX_cycle_ioRead (a : Word) (xy : XY) (s : State) :
    getX xy (busCycle (reqIoRead a s)) = getX xy s := by cases xy <;> rfl
@[simp] theorem getHalf_cycle_ioRead (a : Word) (xy : XY) (k : Half) (s : State) :
    getHalf xy k (busCycle (reqIoRead a s)) = getHalf xy k s := by cases xy <;> cases k <;> rfl
@[simp] theorem getRX_cycle_ioRead (a : Word) (xy : XY) (r : R8) (s : State) :
    getRX xy r (busCycle (reqIoRead a s)) = getRX xy r s := by cases xy <;> cases r <;> rfl
@[simp] theorem getRpX_cycle_ioRead (a : Word) (xy : XY) (rp : RP) (s : State) :
    getRpX xy rp (busCycle (reqIoRead a s)) = getRpX xy rp s := by cases xy <;> cases rp <;> rfl
@[simp] theorem indexAddress_cycle_ioRead (a : Word) (xy : XY) (d : Byte) (s : State) :
    indexAddress xy d (busCycle (reqIoRead a s)) = indexAddress xy d s := by cases xy <;> rfl

@[simp] theorem cycle_ioWrite_af (a : Word) (v : Byte) (s : State) : (busCycle (reqIoWrite a v s)).af = s.af := rfl
@[simp] theorem cycle_ioWrite_bc (a : Word) (v : Byte) (s : State) : (busCycle (reqIoWrite a v s)).bc = s.bc := rfl
@[simp] theorem cycle_ioWrite_de (a : Word) (v : Byte) (s : State) : (busCycle (reqIoWrite a v s)).de = s.de := rfl
@[simp] theorem cycle_ioWrite_hl (a : Word) (v : Byte) (s : State) : (busCycle (reqIoWrite a v s)).hl = s.hl := rfl
@[simp] theorem getR_cycle_ioWrite (a : Word) (v : Byte) (r : R8) (s : State) :
    getR r (busCycle (reqIoWrite a v s)) = getR r s := by cases r <;> rfl
@[simp] theorem getRp_cycle_ioWrite (a : Word) (v : Byte) (rp : RP) (s : State) :
    getRp rp (busCycle (reqIoWrite a v s)) = getRp rp s := by cases rp <;> rfl
@[simp] theorem getRp2_cycle_ioWrite (a : Word) (v : Byte) (rp2 : RP2) (s : State) :
    getRp2 rp2 (busCycle (reqIoWrite a v s)) = getRp2 rp2 s := by cases rp2 <;> rfl
@[simp] theorem getX_cycle_ioWrite (a : Word) (v : Byte) (xy : XY) (s : State) :
    getX xy (busCycle (reqIoWrite a v s)) = getX xy s := by cases xy <;> rfl
@[simp] theorem getHalf_cycle_ioWrite (a : Word) (v : Byte) (xy : XY) (k : Half) (s : State) :
    getHalf xy k (busCycle (reqIoWrite a v s)) = getHalf xy k s := by cases xy <;> cases k <;> rfl
@[simp] theorem getRX_cycle_ioWrite (a : Word) (v : Byte) (xy : XY) (r : R8) (s : State) :
    getRX xy r (busCycle (reqIoWrite a v s)) = getRX xy r s := by cases xy <;> cases r <;> rfl
@[simp] theorem getRpX_cycle_ioWrite (a : Word) (v : Byte) (xy : XY) (rp : RP) (s : State) :
    getRpX xy rp (busCycle (reqIoWrite a v s)) = getRpX xy rp s := by cases xy <;> cases rp <;> rfl
@[simp] theorem indexAddress_cycle_ioWrite (a : Word) (v : Byte) (xy : XY) (d : Byte) (s : State) :
    indexAddress xy d (busCycle (reqIoWrite a v s)) = indexAddress xy d s := by cases xy <;> rfl

@[simp] theorem cycle_exec_af (n : Nat) (s : State) : (busCycle (reqExec n s)).af = s.af := rfl
@[simp] theorem cycle_exec_bc (n : Nat) (s : State) : (busCycle (reqExec n s)).bc = s.bc := rfl
@[simp] theorem cycle_exec_de (n : Nat) (s : State) : (busCycle (reqExec n s)).de = s.de := rfl
@[simp] theorem cycle_exec_hl (n : Nat) (s : State) : (busCycle (reqExec n s)).hl = s.hl := rfl
@[simp] theorem getR_cycle_exec (n : Nat) (r : R8) (s : State) :
    getR r (busCycle (reqExec n s)) = getR r s := by cases r <;> rfl
@[simp] theorem getRp_cycle_exec (n : Nat) (rp : RP) (s : State) :
    getRp rp (busCycle (reqExec n s)) = getRp rp s := by cases rp <;> rfl
@[simp] theorem getRp2_cycle_exec (n : Nat) (rp2 : RP2) (s : State) :
    getRp2 rp2 (busCycle (reqExec n s)) = getRp2 rp2 s := by cases rp2 <;> rfl
@[simp] theorem getX_cycle_exec (n : Nat) (xy : XY) (s : State) :
    getX xy (busCycle (reqExec n s)) = getX xy s := by cases xy <;> rfl
@[simp] theorem getHalf_cycle_exec (n : Nat) (xy : XY) (k : Half) (s : State) :
    getHalf xy k (busCycle (reqExec n s)) = getHalf xy k s := by cases xy <;> cases k <;> rfl
@[simp] theorem getRX_cycle_exec (n : Nat) (xy : XY) (r : R8) (s : State) :
    getRX xy r (busCycle (reqExec n s)) = getRX xy r s := by cases xy <;> cases r <;> rfl
@[simp] theorem getRpX_cycle_exec (n : Nat) (xy : XY) (rp : RP) (s : State) :
    getRpX xy rp (busCycle (reqExec n s)) = getRpX xy rp s := by cases xy <;> cases rp <;> rfl
@[simp] theorem indexAddress_cycle_exec (n : Nat) (xy : XY) (d : Byte) (s : State) :
    indexAddress xy d (busCycle (reqExec n s)) = indexAddress xy d s := by cases xy <;> rfl

/-! ### Running steps (spec/40_step_machine.md R411) -/

/-- Two or more steps: a step that signals done ends the instruction; otherwise a bus cycle and the rest follow. -/
theorem runSteps_cons (f g : StepFn) (rest : Program) (s : State) :
    runSteps (f :: g :: rest) s
      = if (f s).seq.done then settle (f s) else runSteps (g :: rest) (busCycle (f s)) := rfl

theorem runSteps_last (f : StepFn) (s : State) : runSteps [f] s = settle (f s) := rfl

/-- An instruction of one step. -/
theorem runSteps_single (f : StepFn) (s : State) : runSteps (single f) s = settle (signalDone (f s)) := rfl

/-! ### A pair read back after a write -/

@[simp] theorem setDe_bc (v : Word) (s : State) : (setDe v s).bc = s.bc := rfl
@[simp] theorem setHl_bc (v : Word) (s : State) : (setHl v s).bc = s.bc := rfl
@[simp] theorem setF_bc (v : Byte) (s : State) : (setF v s).bc = s.bc := rfl
@[simp] theorem setPc_bc (v : Word) (s : State) : (setPc v s).bc = s.bc := rfl
@[simp] theorem setSp_bc (v : Word) (s : State) : (setSp v s).bc = s.bc := rfl
@[simp] theorem setBc_de (v : Word) (s : State) : (setBc v s).de = s.de := rfl
@[simp] theorem setHl_de (v : Word) (s : State) : (setHl v s).de = s.de := rfl
@[simp] theorem setF_de (v : Byte) (s : State) : (setF v s).de = s.de := rfl
@[simp] theorem setPc_de (v : Word) (s : State) : (setPc v s).de = s.de := rfl
@[simp] theorem setSp_de (v : Word) (s : State) : (setSp v s).de = s.de := rfl
@[simp] theorem setBc_hl (v : Word) (s : State) : (setBc v s).hl = s.hl := rfl
@[simp] theorem setDe_hl (v : Word) (s : State) : (setDe v s).hl = s.hl := rfl
@[simp] theorem setF_hl (v : Byte) (s : State) : (setF v s).hl = s.hl := rfl
@[simp] theorem setPc_hl (v : Word) (s : State) : (setPc v s).hl = s.hl := rfl
@[simp] theorem setSp_hl (v : Word) (s : State) : (setSp v s).hl = s.hl := rfl

/-! ### Conditions -/

@[simp] theorem condition_settle (cc : CC) (s : State) : condition cc (settle s) = condition cc s := rfl
@[simp] theorem condition_holdFor (cc : CC) (n : Nat) (s : State) : condition cc (holdFor n s) = condition cc s := rfl

/-! ### Bytes stored -/

/-- A state with its memory replaced, as a record update. -/
theorem with_mem_eq (m : Memory) (t : State) : ({ t with mem := m } : State) = withMem m t := rfl

theorem storedByte_write (m : Memory) (a : Word) (v : Byte) : storedByte m (m.write a v) a v :=
  fun _ => Memory.read_write ..

/-- The low byte first. -/
theorem storedPair_lowFirst (m : Memory) (a v : Word) :
    storedPair m ((m.write a (lo8 v)).write (a + 1) (hi8 v)) a v := by
  intro x
  have ha : a + 1 ≠ a := by intro h; simp at h
  rw [Memory.read_write, Memory.read_write]
  by_cases h1 : x = a + 1
  · subst h1
    rw [if_pos rfl, if_neg ha, if_pos rfl]
  · rw [if_neg h1, if_neg h1]

/-- The high byte first. -/
theorem storedPair_highFirst (m : Memory) (a v : Word) :
    storedPair m ((m.write (a + 1) (hi8 v)).write a (lo8 v)) a v := by
  intro x
  rw [Memory.read_write, Memory.read_write]

end Sys2Proof.Machine
end

