-- ==== Sys2Proof/Machine/Assembly.lean ====
section
/-! DEFINITION. The assembler syntax of the instructions, as data (spec/30_encoding.md R326, R327): a source line is a
mnemonic and its operands, destination first. The machine does not read this file; it says which line each
constructor stands for. What an operand in parentheses does is in the meanings: `JP (HL)` loads HL itself
(`execJpHl`), and the port of `(C)` is BC (`execInRC`, `execOutCR`). -/

namespace Sys2Proof.Machine

/-! ### Relative targets -/

/-- The target that the source of `JR` and `DJNZ` names, for an instruction at `addr`: past its two bytes, plus the
displacement (R304, R326). -/
def relativeTarget (addr : Word) (e : Byte) : Word := addr + 2 + sext16 e

/-- The displacement an assembler encodes, `e = target - (address of the instruction + 2)` (R326). -/
def assembledDisplacement (target addr : Word) : Byte := lo8 (target - (addr + 2))

/-- Whether the displacement reaches the target: -126 to +129 bytes from the instruction's first byte (R304). -/
def reaches (target addr : Word) : Bool := relativeTarget addr (assembledDisplacement target addr) == target

/-! ### Operands -/

/-- An operand of a source line (R326). -/
inductive AsmOperand where
  /-- an 8-bit register -/
  | reg (r : R8)
  /-- IXH, IXL, IYH or IYL -/
  | half (xy : XY) (part : Half)
  /-- BC, DE, HL or SP -/
  | pair (rp : RP)
  /-- IX or IY -/
  | index (xy : XY)
  /-- AF -/
  | af
  /-- AF' -/
  | afShadow
  /-- I -/
  | vector
  /-- R -/
  | refresh
  /-- F, of `IN F,(C)` -/
  | flags
  /-- a condition -/
  | cond (cc : CC)
  /-- an 8-bit immediate, or the address of RST -/
  | imm8 (n : Byte)
  /-- a 16-bit immediate, or the target of a jump or call -/
  | imm16 (nn : Word)
  /-- a bit number, an interrupt mode, or the 0 of `OUT (C),0` -/
  | number (n : Nat)
  /-- the interrupt mode that R305 writes `0/1` -/
  | zeroOrOne
  /-- `(BC)`, `(DE)`, `(HL)` or `(SP)`; in `JP (HL)` the pair itself -/
  | atPair (rp : RP)
  /-- `(IX)` or `(IY)` of `JP (IX)` and `JP (IY)`, the register itself -/
  | atIndex (xy : XY)
  /-- `(IX+d)` or `(IY+d)`, with `d` signed -/
  | atIndexed (xy : XY) (d : Byte)
  /-- `(nn)` -/
  | atWord (nn : Word)
  /-- `(n)`, an 8-bit port -/
  | portN (n : Byte)
  /-- `(C)`, the port BC (spec/20_memory.md R203) -/
  | portC
  deriving DecidableEq, Repr

/-- An entry of `rp2[i]` (R305). -/
def AsmOperand.pair2 : RP2 → AsmOperand
  | .bc => .pair .bc
  | .de => .pair .de
  | .hl => .pair .hl
  | .af => .af

/-- A pair under a DD or FD prefix, where HL is the index register (R320 item 1). -/
def AsmOperand.pairX (xy : XY) : RP → AsmOperand
  | .bc => .pair .bc
  | .de => .pair .de
  | .hl => .index xy
  | .sp => .pair .sp

/-- A register under a DD or FD prefix, where H and L are the halves of the index register (R320 item 3). -/
def AsmOperand.half8 (xy : XY) : R8 → AsmOperand
  | .h => .half xy .hi
  | .l => .half xy .lo
  | .b => .reg .b
  | .c => .reg .c
  | .d => .reg .d
  | .e => .reg .e
  | .a => .reg .a

/-- The mode `im[y]` (R305). -/
def AsmOperand.mode (y : BitVec 3) : AsmOperand :=
  match y.toNat % 4 with
  | 0 => .number 0
  | 1 => .zeroOrOne
  | 2 => .number 1
  | _ => .number 2

/-! ### Lines -/

/-- The mnemonics (R326). -/
inductive Mnemonic where
  | nop | ex | djnz | jr | ld | add | inc | dec | rlca | rrca | rla | rra
  | daa | cpl | scf | ccf | halt | adc | sub | sbc | and | xor | or | cp
  | ret | pop | exx | jp | out | input | di | ei | call | push | rst | rlc
  | rrc | rl | rr | sla | sra | sll | srl | bit | res | set | neg | retn
  | reti | im | rrd | rld | ldi | cpi | ini | outi | ldd | cpd | ind | outd
  | ldir | cpir | inir | otir | lddr | cpdr | indr | otdr
  deriving DecidableEq, Repr

/-- A source line: a mnemonic and its operands, destination first (R326). -/
structure AsmLine where
  /-- the mnemonic -/
  op : Mnemonic
  /-- the operands, in the order written -/
  args : List AsmOperand
  deriving DecidableEq, Repr

/-- The line that stands for an instruction whose first byte is at `addr` (R326); `none` for the units R326 gives no
line: a prefix byte, a prefix without effect, and the ED slots without an instruction. The mirrors of NEG, RETN and IM
and the copies of BIT under a prefix are written as the instruction they repeat (log 30). -/
def asmLine (addr : Word) (i : Instr) : Option AsmLine :=
  match i with
  | .nop => some ⟨.nop, []⟩
  | .exAfAf => some ⟨.ex, [.af, .afShadow]⟩
  | .djnz e => some ⟨.djnz, [.imm16 (relativeTarget addr e)]⟩
  | .jr e => some ⟨.jr, [.imm16 (relativeTarget addr e)]⟩
  | .jrCc cc e => some ⟨.jr, [.cond (jumpCondition cc), .imm16 (relativeTarget addr e)]⟩
  | .ldRpNn rp nn => some ⟨.ld, [.pair rp, .imm16 nn]⟩
  | .addHlRp rp => some ⟨.add, [.pair .hl, .pair rp]⟩
  | .ldAtBcA => some ⟨.ld, [.atPair .bc, .reg .a]⟩
  | .ldAtDeA => some ⟨.ld, [.atPair .de, .reg .a]⟩
  | .ldAtNnHl nn => some ⟨.ld, [.atWord nn, .pair .hl]⟩
  | .ldAtNnA nn => some ⟨.ld, [.atWord nn, .reg .a]⟩
  | .ldAAtBc => some ⟨.ld, [.reg .a, .atPair .bc]⟩
  | .ldAAtDe => some ⟨.ld, [.reg .a, .atPair .de]⟩
  | .ldHlAtNn nn => some ⟨.ld, [.pair .hl, .atWord nn]⟩
  | .ldAAtNn nn => some ⟨.ld, [.reg .a, .atWord nn]⟩
  | .incRp rp => some ⟨.inc, [.pair rp]⟩
  | .decRp rp => some ⟨.dec, [.pair rp]⟩
  | .incR r => some ⟨.inc, [.reg r]⟩
  | .incAtHl => some ⟨.inc, [.atPair .hl]⟩
  | .decR r => some ⟨.dec, [.reg r]⟩
  | .decAtHl => some ⟨.dec, [.atPair .hl]⟩
  | .ldRN r n => some ⟨.ld, [.reg r, .imm8 n]⟩
  | .ldAtHlN n => some ⟨.ld, [.atPair .hl, .imm8 n]⟩
  | .rlca => some ⟨.rlca, []⟩
  | .rrca => some ⟨.rrca, []⟩
  | .rla => some ⟨.rla, []⟩
  | .rra => some ⟨.rra, []⟩
  | .daa => some ⟨.daa, []⟩
  | .cpl => some ⟨.cpl, []⟩
  | .scf => some ⟨.scf, []⟩
  | .ccf => some ⟨.ccf, []⟩
  | .ldRR r r' => some ⟨.ld, [.reg r, .reg r']⟩
  | .ldRAtHl r => some ⟨.ld, [.reg r, .atPair .hl]⟩
  | .ldAtHlR r => some ⟨.ld, [.atPair .hl, .reg r]⟩
  | .halt => some ⟨.halt, []⟩
  | .addAR r => some ⟨.add, [.reg .a, .reg r]⟩
  | .addAAtHl => some ⟨.add, [.reg .a, .atPair .hl]⟩
  | .addAN n => some ⟨.add, [.reg .a, .imm8 n]⟩
  | .adcAR r => some ⟨.adc, [.reg .a, .reg r]⟩
  | .adcAAtHl => some ⟨.adc, [.reg .a, .atPair .hl]⟩
  | .adcAN n => some ⟨.adc, [.reg .a, .imm8 n]⟩
  | .subR r => some ⟨.sub, [.reg r]⟩
  | .subAtHl => some ⟨.sub, [.atPair .hl]⟩
  | .subN n => some ⟨.sub, [.imm8 n]⟩
  | .sbcAR r => some ⟨.sbc, [.reg .a, .reg r]⟩
  | .sbcAAtHl => some ⟨.sbc, [.reg .a, .atPair .hl]⟩
  | .sbcAN n => some ⟨.sbc, [.reg .a, .imm8 n]⟩
  | .andR r => some ⟨.and, [.reg r]⟩
  | .andAtHl => some ⟨.and, [.atPair .hl]⟩
  | .andN n => some ⟨.and, [.imm8 n]⟩
  | .xorR r => some ⟨.xor, [.reg r]⟩
  | .xorAtHl => some ⟨.xor, [.atPair .hl]⟩
  | .xorN n => some ⟨.xor, [.imm8 n]⟩
  | .orR r => some ⟨.or, [.reg r]⟩
  | .orAtHl => some ⟨.or, [.atPair .hl]⟩
  | .orN n => some ⟨.or, [.imm8 n]⟩
  | .cpR r => some ⟨.cp, [.reg r]⟩
  | .cpAtHl => some ⟨.cp, [.atPair .hl]⟩
  | .cpN n => some ⟨.cp, [.imm8 n]⟩
  | .retCc cc => some ⟨.ret, [.cond cc]⟩
  | .popRp2 rp2 => some ⟨.pop, [AsmOperand.pair2 rp2]⟩
  | .ret => some ⟨.ret, []⟩
  | .exx => some ⟨.exx, []⟩
  | .jpHl => some ⟨.jp, [.atPair .hl]⟩
  | .ldSpHl => some ⟨.ld, [.pair .sp, .pair .hl]⟩
  | .jpCcNn cc nn => some ⟨.jp, [.cond cc, .imm16 nn]⟩
  | .jpNn nn => some ⟨.jp, [.imm16 nn]⟩
  | .cbPrefix => none
  | .outAtNA n => some ⟨.out, [.portN n, .reg .a]⟩
  | .inAAtN n => some ⟨.input, [.reg .a, .portN n]⟩
  | .exAtSpHl => some ⟨.ex, [.atPair .sp, .pair .hl]⟩
  | .exDeHl => some ⟨.ex, [.pair .de, .pair .hl]⟩
  | .di => some ⟨.di, []⟩
  | .ei => some ⟨.ei, []⟩
  | .callCcNn cc nn => some ⟨.call, [.cond cc, .imm16 nn]⟩
  | .pushRp2 rp2 => some ⟨.push, [AsmOperand.pair2 rp2]⟩
  | .callNn nn => some ⟨.call, [.imm16 nn]⟩
  | .ddPrefix => none
  | .edPrefix => none
  | .fdPrefix => none
  | .rst y => some ⟨.rst, [.imm8 (lo8 (restartAddress y))]⟩
  | .rlcR r => some ⟨.rlc, [.reg r]⟩
  | .rlcAtHl => some ⟨.rlc, [.atPair .hl]⟩
  | .rrcR r => some ⟨.rrc, [.reg r]⟩
  | .rrcAtHl => some ⟨.rrc, [.atPair .hl]⟩
  | .rlR r => some ⟨.rl, [.reg r]⟩
  | .rlAtHl => some ⟨.rl, [.atPair .hl]⟩
  | .rrR r => some ⟨.rr, [.reg r]⟩
  | .rrAtHl => some ⟨.rr, [.atPair .hl]⟩
  | .slaR r => some ⟨.sla, [.reg r]⟩
  | .slaAtHl => some ⟨.sla, [.atPair .hl]⟩
  | .sraR r => some ⟨.sra, [.reg r]⟩
  | .sraAtHl => some ⟨.sra, [.atPair .hl]⟩
  | .sllR r => some ⟨.sll, [.reg r]⟩
  | .sllAtHl => some ⟨.sll, [.atPair .hl]⟩
  | .srlR r => some ⟨.srl, [.reg r]⟩
  | .srlAtHl => some ⟨.srl, [.atPair .hl]⟩
  | .bitR b r => some ⟨.bit, [.number b.toNat, .reg r]⟩
  | .bitAtHl b => some ⟨.bit, [.number b.toNat, .atPair .hl]⟩
  | .resR b r => some ⟨.res, [.number b.toNat, .reg r]⟩
  | .resAtHl b => some ⟨.res, [.number b.toNat, .atPair .hl]⟩
  | .setR b r => some ⟨.set, [.number b.toNat, .reg r]⟩
  | .setAtHl b => some ⟨.set, [.number b.toNat, .atPair .hl]⟩
  | .inRC r => some ⟨.input, [.reg r, .portC]⟩
  | .inFlagsC => some ⟨.input, [.portC]⟩
  | .outCR r => some ⟨.out, [.portC, .reg r]⟩
  | .outC0 => some ⟨.out, [.portC, .number 0]⟩
  | .sbcHlRp rp => some ⟨.sbc, [.pair .hl, .pair rp]⟩
  | .adcHlRp rp => some ⟨.adc, [.pair .hl, .pair rp]⟩
  | .ldAtNnRp rp nn => some ⟨.ld, [.atWord nn, .pair rp]⟩
  | .ldRpAtNn rp nn => some ⟨.ld, [.pair rp, .atWord nn]⟩
  | .neg _ => some ⟨.neg, []⟩
  | .retn _ => some ⟨.retn, []⟩
  | .reti => some ⟨.reti, []⟩
  | .im y => some ⟨.im, [AsmOperand.mode y]⟩
  | .ldIA => some ⟨.ld, [.vector, .reg .a]⟩
  | .ldRA => some ⟨.ld, [.refresh, .reg .a]⟩
  | .ldAI => some ⟨.ld, [.reg .a, .vector]⟩
  | .ldAR => some ⟨.ld, [.reg .a, .refresh]⟩
  | .rrd => some ⟨.rrd, []⟩
  | .rld => some ⟨.rld, []⟩
  | .nopEd _ => none
  | .ldi => some ⟨.ldi, []⟩
  | .cpi => some ⟨.cpi, []⟩
  | .ini => some ⟨.ini, []⟩
  | .outi => some ⟨.outi, []⟩
  | .ldd => some ⟨.ldd, []⟩
  | .cpd => some ⟨.cpd, []⟩
  | .ind => some ⟨.ind, []⟩
  | .outd => some ⟨.outd, []⟩
  | .ldir => some ⟨.ldir, []⟩
  | .cpir => some ⟨.cpir, []⟩
  | .inir => some ⟨.inir, []⟩
  | .otir => some ⟨.otir, []⟩
  | .lddr => some ⟨.lddr, []⟩
  | .cpdr => some ⟨.cpdr, []⟩
  | .indr => some ⟨.indr, []⟩
  | .otdr => some ⟨.otdr, []⟩
  | .noni _ => none
  | .addIxRp rp => some ⟨.add, [.index .ix, AsmOperand.pairX .ix rp]⟩
  | .ldIxNn nn => some ⟨.ld, [.index .ix, .imm16 nn]⟩
  | .ldAtNnIx nn => some ⟨.ld, [.atWord nn, .index .ix]⟩
  | .ldIxAtNn nn => some ⟨.ld, [.index .ix, .atWord nn]⟩
  | .incIx => some ⟨.inc, [.index .ix]⟩
  | .decIx => some ⟨.dec, [.index .ix]⟩
  | .incIxHalf half => some ⟨.inc, [.half .ix half]⟩
  | .decIxHalf half => some ⟨.dec, [.half .ix half]⟩
  | .ldIxHalfN half n => some ⟨.ld, [.half .ix half, .imm8 n]⟩
  | .incAtIx d => some ⟨.inc, [.atIndexed .ix d]⟩
  | .decAtIx d => some ⟨.dec, [.atIndexed .ix d]⟩
  | .ldAtIxN d n => some ⟨.ld, [.atIndexed .ix d, .imm8 n]⟩
  | .ldRRIxHalves r r' => some ⟨.ld, [AsmOperand.half8 .ix r, AsmOperand.half8 .ix r']⟩
  | .ldRAtIx r d => some ⟨.ld, [.reg r, .atIndexed .ix d]⟩
  | .ldAtIxR d r => some ⟨.ld, [.atIndexed .ix d, .reg r]⟩
  | .addAIxHalf half => some ⟨.add, [.reg .a, .half .ix half]⟩
  | .addAAtIx d => some ⟨.add, [.reg .a, .atIndexed .ix d]⟩
  | .adcAIxHalf half => some ⟨.adc, [.reg .a, .half .ix half]⟩
  | .adcAAtIx d => some ⟨.adc, [.reg .a, .atIndexed .ix d]⟩
  | .subIxHalf half => some ⟨.sub, [.half .ix half]⟩
  | .subAtIx d => some ⟨.sub, [.atIndexed .ix d]⟩
  | .sbcAIxHalf half => some ⟨.sbc, [.reg .a, .half .ix half]⟩
  | .sbcAAtIx d => some ⟨.sbc, [.reg .a, .atIndexed .ix d]⟩
  | .andIxHalf half => some ⟨.and, [.half .ix half]⟩
  | .andAtIx d => some ⟨.and, [.atIndexed .ix d]⟩
  | .xorIxHalf half => some ⟨.xor, [.half .ix half]⟩
  | .xorAtIx d => some ⟨.xor, [.atIndexed .ix d]⟩
  | .orIxHalf half => some ⟨.or, [.half .ix half]⟩
  | .orAtIx d => some ⟨.or, [.atIndexed .ix d]⟩
  | .cpIxHalf half => some ⟨.cp, [.half .ix half]⟩
  | .cpAtIx d => some ⟨.cp, [.atIndexed .ix d]⟩
  | .popIx => some ⟨.pop, [.index .ix]⟩
  | .exAtSpIx => some ⟨.ex, [.atPair .sp, .index .ix]⟩
  | .pushIx => some ⟨.push, [.index .ix]⟩
  | .jpIx => some ⟨.jp, [.atIndex .ix]⟩
  | .ldSpIx => some ⟨.ld, [.pair .sp, .index .ix]⟩
  | .ddCbPrefix => none
  | .ddNoEffect _ => none
  | .rlcAtIx d => some ⟨.rlc, [.atIndexed .ix d]⟩
  | .rlcAtIxR d r => some ⟨.rlc, [.atIndexed .ix d, .reg r]⟩
  | .rrcAtIx d => some ⟨.rrc, [.atIndexed .ix d]⟩
  | .rrcAtIxR d r => some ⟨.rrc, [.atIndexed .ix d, .reg r]⟩
  | .rlAtIx d => some ⟨.rl, [.atIndexed .ix d]⟩
  | .rlAtIxR d r => some ⟨.rl, [.atIndexed .ix d, .reg r]⟩
  | .rrAtIx d => some ⟨.rr, [.atIndexed .ix d]⟩
  | .rrAtIxR d r => some ⟨.rr, [.atIndexed .ix d, .reg r]⟩
  | .slaAtIx d => some ⟨.sla, [.atIndexed .ix d]⟩
  | .slaAtIxR d r => some ⟨.sla, [.atIndexed .ix d, .reg r]⟩
  | .sraAtIx d => some ⟨.sra, [.atIndexed .ix d]⟩
  | .sraAtIxR d r => some ⟨.sra, [.atIndexed .ix d, .reg r]⟩
  | .sllAtIx d => some ⟨.sll, [.atIndexed .ix d]⟩
  | .sllAtIxR d r => some ⟨.sll, [.atIndexed .ix d, .reg r]⟩
  | .srlAtIx d => some ⟨.srl, [.atIndexed .ix d]⟩
  | .srlAtIxR d r => some ⟨.srl, [.atIndexed .ix d, .reg r]⟩
  | .bitAtIx b d _ => some ⟨.bit, [.number b.toNat, .atIndexed .ix d]⟩
  | .resAtIx b d => some ⟨.res, [.number b.toNat, .atIndexed .ix d]⟩
  | .resAtIxR b d r => some ⟨.res, [.number b.toNat, .atIndexed .ix d, .reg r]⟩
  | .setAtIx b d => some ⟨.set, [.number b.toNat, .atIndexed .ix d]⟩
  | .setAtIxR b d r => some ⟨.set, [.number b.toNat, .atIndexed .ix d, .reg r]⟩
  | .addIyRp rp => some ⟨.add, [.index .iy, AsmOperand.pairX .iy rp]⟩
  | .ldIyNn nn => some ⟨.ld, [.index .iy, .imm16 nn]⟩
  | .ldAtNnIy nn => some ⟨.ld, [.atWord nn, .index .iy]⟩
  | .ldIyAtNn nn => some ⟨.ld, [.index .iy, .atWord nn]⟩
  | .incIy => some ⟨.inc, [.index .iy]⟩
  | .decIy => some ⟨.dec, [.index .iy]⟩
  | .incIyHalf half => some ⟨.inc, [.half .iy half]⟩
  | .decIyHalf half => some ⟨.dec, [.half .iy half]⟩
  | .ldIyHalfN half n => some ⟨.ld, [.half .iy half, .imm8 n]⟩
  | .incAtIy d => some ⟨.inc, [.atIndexed .iy d]⟩
  | .decAtIy d => some ⟨.dec, [.atIndexed .iy d]⟩
  | .ldAtIyN d n => some ⟨.ld, [.atIndexed .iy d, .imm8 n]⟩
  | .ldRRIyHalves r r' => some ⟨.ld, [AsmOperand.half8 .iy r, AsmOperand.half8 .iy r']⟩
  | .ldRAtIy r d => some ⟨.ld, [.reg r, .atIndexed .iy d]⟩
  | .ldAtIyR d r => some ⟨.ld, [.atIndexed .iy d, .reg r]⟩
  | .addAIyHalf half => some ⟨.add, [.reg .a, .half .iy half]⟩
  | .addAAtIy d => some ⟨.add, [.reg .a, .atIndexed .iy d]⟩
  | .adcAIyHalf half => some ⟨.adc, [.reg .a, .half .iy half]⟩
  | .adcAAtIy d => some ⟨.adc, [.reg .a, .atIndexed .iy d]⟩
  | .subIyHalf half => some ⟨.sub, [.half .iy half]⟩
  | .subAtIy d => some ⟨.sub, [.atIndexed .iy d]⟩
  | .sbcAIyHalf half => some ⟨.sbc, [.reg .a, .half .iy half]⟩
  | .sbcAAtIy d => some ⟨.sbc, [.reg .a, .atIndexed .iy d]⟩
  | .andIyHalf half => some ⟨.and, [.half .iy half]⟩
  | .andAtIy d => some ⟨.and, [.atIndexed .iy d]⟩
  | .xorIyHalf half => some ⟨.xor, [.half .iy half]⟩
  | .xorAtIy d => some ⟨.xor, [.atIndexed .iy d]⟩
  | .orIyHalf half => some ⟨.or, [.half .iy half]⟩
  | .orAtIy d => some ⟨.or, [.atIndexed .iy d]⟩
  | .cpIyHalf half => some ⟨.cp, [.half .iy half]⟩
  | .cpAtIy d => some ⟨.cp, [.atIndexed .iy d]⟩
  | .popIy => some ⟨.pop, [.index .iy]⟩
  | .exAtSpIy => some ⟨.ex, [.atPair .sp, .index .iy]⟩
  | .pushIy => some ⟨.push, [.index .iy]⟩
  | .jpIy => some ⟨.jp, [.atIndex .iy]⟩
  | .ldSpIy => some ⟨.ld, [.pair .sp, .index .iy]⟩
  | .fdCbPrefix => none
  | .fdNoEffect _ => none
  | .rlcAtIy d => some ⟨.rlc, [.atIndexed .iy d]⟩
  | .rlcAtIyR d r => some ⟨.rlc, [.atIndexed .iy d, .reg r]⟩
  | .rrcAtIy d => some ⟨.rrc, [.atIndexed .iy d]⟩
  | .rrcAtIyR d r => some ⟨.rrc, [.atIndexed .iy d, .reg r]⟩
  | .rlAtIy d => some ⟨.rl, [.atIndexed .iy d]⟩
  | .rlAtIyR d r => some ⟨.rl, [.atIndexed .iy d, .reg r]⟩
  | .rrAtIy d => some ⟨.rr, [.atIndexed .iy d]⟩
  | .rrAtIyR d r => some ⟨.rr, [.atIndexed .iy d, .reg r]⟩
  | .slaAtIy d => some ⟨.sla, [.atIndexed .iy d]⟩
  | .slaAtIyR d r => some ⟨.sla, [.atIndexed .iy d, .reg r]⟩
  | .sraAtIy d => some ⟨.sra, [.atIndexed .iy d]⟩
  | .sraAtIyR d r => some ⟨.sra, [.atIndexed .iy d, .reg r]⟩
  | .sllAtIy d => some ⟨.sll, [.atIndexed .iy d]⟩
  | .sllAtIyR d r => some ⟨.sll, [.atIndexed .iy d, .reg r]⟩
  | .srlAtIy d => some ⟨.srl, [.atIndexed .iy d]⟩
  | .srlAtIyR d r => some ⟨.srl, [.atIndexed .iy d, .reg r]⟩
  | .bitAtIy b d _ => some ⟨.bit, [.number b.toNat, .atIndexed .iy d]⟩
  | .resAtIy b d => some ⟨.res, [.number b.toNat, .atIndexed .iy d]⟩
  | .resAtIyR b d r => some ⟨.res, [.number b.toNat, .atIndexed .iy d, .reg r]⟩
  | .setAtIy b d => some ⟨.set, [.number b.toNat, .atIndexed .iy d]⟩
  | .setAtIyR b d r => some ⟨.set, [.number b.toNat, .atIndexed .iy d, .reg r]⟩

/-- The second way to write a line, if it has one: the aliases of R327, and `IN F,(C)` of R326. -/
def AsmLine.alternative (line : AsmLine) : Option AsmLine :=
  match line with
  | ⟨.sub, [.reg r]⟩ => some ⟨.sub, [.reg .a, .reg r]⟩
  | ⟨.add, [.reg .a, .reg r]⟩ => some ⟨.add, [.reg r]⟩
  | ⟨.jp, [.atPair .hl]⟩ => some ⟨.jp, [.pair .hl]⟩
  | ⟨.ex, [.pair .de, .pair .hl]⟩ => some ⟨.ex, [.pair .hl, .pair .de]⟩
  | ⟨.input, [.portC]⟩ => some ⟨.input, [.flags, .portC]⟩
  | _ => none

/-- Whether a line assembles, at `addr`, to an instruction: it is the instruction's line, or the second way to write
it, which has the same encoding (R327). -/
def assemblesTo (addr : Word) (line : AsmLine) (i : Instr) : Bool :=
  asmLine addr i == some line || (asmLine addr i).bind AsmLine.alternative == some line

/-! ### Spelling -/

/-- A hexadecimal digit. -/
def hexDigit (n : Nat) : Char := if n < 10 then Char.ofNat (48 + n) else Char.ofNat (55 + n)

/-- The digits of a number in a base, at least one, with `fuel` digits at most. -/
def digits (base : Nat) : Nat → Nat → List Char
  | 0, _ => []
  | fuel + 1, n => if n < base then [hexDigit n] else digits base fuel (n / base) ++ [hexDigit (n % base)]

/-- `0x12` (R326). -/
def Byte.text (n : Byte) : String :=
  "0x" ++ String.ofList [hexDigit (n.toNat / 16), hexDigit (n.toNat % 16)]

/-- `0x1234` (R326). -/
def Word.text (nn : Word) : String :=
  "0x" ++ String.ofList [hexDigit (nn.toNat / 4096), hexDigit (nn.toNat / 256 % 16), hexDigit (nn.toNat / 16 % 16),
    hexDigit (nn.toNat % 16)]

/-- A plain decimal number (R326). -/
def decimal (n : Nat) : String := String.ofList (digits 10 5 n)

/-- A signed displacement with its sign: `+5`, `-5` (R326; spec/95_test_vectors.md V42.3). -/
def displacementText (d : Byte) : String :=
  if d.msb then "-" ++ decimal (256 - d.toNat) else "+" ++ decimal d.toNat

/-- The name of a register of `r[i]` (R305). -/
def R8.text : R8 → String
  | .b => "B"
  | .c => "C"
  | .d => "D"
  | .e => "E"
  | .h => "H"
  | .l => "L"
  | .a => "A"

/-- The name of a pair of `rp[i]` (R305). -/
def RP.text : RP → String
  | .bc => "BC"
  | .de => "DE"
  | .hl => "HL"
  | .sp => "SP"

/-- The name of an index register. -/
def XY.text : XY → String
  | .ix => "IX"
  | .iy => "IY"

/-- The name of a condition `cc[i]` (R305). -/
def CC.text : CC → String
  | .nz => "NZ"
  | .z => "Z"
  | .nc => "NC"
  | .c => "C"
  | .po => "PO"
  | .pe => "PE"
  | .p => "P"
  | .m => "M"

/-- The ways to write an operand, the one this spec uses first (R326). The other names of the index halves that R326
lists are taken as names of IXH and IXL (log 30). -/
def AsmOperand.texts : AsmOperand → List String
  | .reg r => [R8.text r]
  | .half .ix .hi => ["IXH", "HX", "XH"]
  | .half .ix .lo => ["IXL", "LX", "XL"]
  | .half .iy .hi => ["IYH"]
  | .half .iy .lo => ["IYL"]
  | .pair rp => [RP.text rp]
  | .index xy => [XY.text xy]
  | .af => ["AF"]
  | .afShadow => ["AF'"]
  | .vector => ["I"]
  | .refresh => ["R"]
  | .flags => ["F"]
  | .cond cc => [CC.text cc]
  | .imm8 n => [Byte.text n]
  | .imm16 nn => [Word.text nn]
  | .number n => [decimal n]
  | .zeroOrOne => ["0/1"]
  | .atPair rp => ["(" ++ RP.text rp ++ ")"]
  | .atIndex xy => ["(" ++ XY.text xy ++ ")"]
  | .atIndexed xy d => ["(" ++ XY.text xy ++ displacementText d ++ ")"]
  | .atWord nn => ["(" ++ Word.text nn ++ ")"]
  | .portN n => ["(" ++ Byte.text n ++ ")"]
  | .portC => ["(C)"]

/-- The ways to write a mnemonic, the one this spec uses first (R326). -/
def Mnemonic.texts : Mnemonic → List String
  | .nop => ["NOP"]
  | .ex => ["EX"]
  | .djnz => ["DJNZ"]
  | .jr => ["JR"]
  | .ld => ["LD"]
  | .add => ["ADD"]
  | .inc => ["INC"]
  | .dec => ["DEC"]
  | .rlca => ["RLCA"]
  | .rrca => ["RRCA"]
  | .rla => ["RLA"]
  | .rra => ["RRA"]
  | .daa => ["DAA"]
  | .cpl => ["CPL"]
  | .scf => ["SCF"]
  | .ccf => ["CCF"]
  | .halt => ["HALT"]
  | .adc => ["ADC"]
  | .sub => ["SUB"]
  | .sbc => ["SBC"]
  | .and => ["AND"]
  | .xor => ["XOR"]
  | .or => ["OR"]
  | .cp => ["CP"]
  | .ret => ["RET"]
  | .pop => ["POP"]
  | .exx => ["EXX"]
  | .jp => ["JP"]
  | .out => ["OUT"]
  | .input => ["IN"]
  | .di => ["DI"]
  | .ei => ["EI"]
  | .call => ["CALL"]
  | .push => ["PUSH"]
  | .rst => ["RST"]
  | .rlc => ["RLC"]
  | .rrc => ["RRC"]
  | .rl => ["RL"]
  | .rr => ["RR"]
  | .sla => ["SLA"]
  | .sra => ["SRA"]
  | .sll => ["SLL", "SL1", "SLS"]
  | .srl => ["SRL"]
  | .bit => ["BIT"]
  | .res => ["RES"]
  | .set => ["SET"]
  | .neg => ["NEG"]
  | .retn => ["RETN"]
  | .reti => ["RETI"]
  | .im => ["IM"]
  | .rrd => ["RRD"]
  | .rld => ["RLD"]
  | .ldi => ["LDI"]
  | .cpi => ["CPI"]
  | .ini => ["INI"]
  | .outi => ["OUTI"]
  | .ldd => ["LDD"]
  | .cpd => ["CPD"]
  | .ind => ["IND"]
  | .outd => ["OUTD"]
  | .ldir => ["LDIR"]
  | .cpir => ["CPIR"]
  | .inir => ["INIR"]
  | .otir => ["OTIR"]
  | .lddr => ["LDDR"]
  | .cpdr => ["CPDR"]
  | .indr => ["INDR"]
  | .otdr => ["OTDR"]

/-- The ways to write a list of operands, separated by commas (R326). -/
def operandTexts : List AsmOperand → List String
  | [] => [""]
  | [o] => o.texts
  | o :: os => o.texts.flatMap fun a => (operandTexts os).map fun b => a ++ "," ++ b

/-- The ways to write a line: one mnemonic, then its operands (R326). -/
def AsmLine.texts (line : AsmLine) : List String :=
  line.op.texts.flatMap fun m =>
    if line.args.isEmpty then [m] else (operandTexts line.args).map fun a => m ++ " " ++ a

/-- Every source text of an instruction at `addr`, the one this spec uses first (R326, R327). -/
def sourceTexts (addr : Word) (i : Instr) : List String :=
  match asmLine addr i with
  | none => []
  | some line => line.texts ++ (line.alternative.elim [] AsmLine.texts)

end Sys2Proof.Machine
end

