-- ==== Sys2Proof/Laws/Assembly.lean ====
section
/-! SUPPORT. What the assembler syntax says of relative targets (spec/30_encoding.md R304, R326). -/

namespace Sys2Proof.Machine

/-- The low byte of a sign-extended byte is the byte. -/
theorem lo8_sext16 (e : Byte) : lo8 (sext16 e) = e := by revert e; decide

/-- The displacement an assembler encodes for the target of a displacement is that displacement (R326). -/
@[simp] theorem assembledDisplacement_relativeTarget (addr : Word) (e : Byte) :
    assembledDisplacement (relativeTarget addr e) addr = e := by
  rw [assembledDisplacement, relativeTarget, BitVec.add_comm (addr + 2), BitVec.add_sub_cancel, lo8_sext16]

/-- The target of every displacement is in reach (R304). -/
@[simp] theorem reaches_relativeTarget (addr : Word) (e : Byte) : reaches (relativeTarget addr e) addr = true := by
  simp [reaches]

/-- A jump taken after the two bytes of the instruction at `addr` goes to the target its source names (R304, R326). -/
theorem jumpRelative_relativeTarget (addr : Word) (e : Byte) (s : State) (h : s.regs.pc = addr + 2) :
    jumpRelative e s = setPc (relativeTarget addr e) s := by
  rw [jumpRelative, h, relativeTarget]

/-- With PC past its two bytes, a jump to the assembled displacement of a target in reach goes to that target. -/
theorem jumpRelative_assembledDisplacement (target addr : Word) (s : State) (h : s.regs.pc = addr + 2)
    (hr : reaches target addr = true) : jumpRelative (assembledDisplacement target addr) s = setPc target s := by
  rw [jumpRelative_relativeTarget addr _ s h, eq_of_beq hr]

end Sys2Proof.Machine
end

