-- ==== Sys2Proof/Laws/Flags.lean ====
section
/-! SUPPORT. The bits of F: what `mkF` packs, what the mask of undocumented bits leaves alone, and the helper values of
the engine against the words claims use. -/

namespace Sys2Proof.Machine

/-- Each bit of a packed F. -/
theorem mkF_bits (s z y h x pv n c : Bool) :
    flagS (mkF s z y h x pv n c) = s ∧ flagZ (mkF s z y h x pv n c) = z ∧ flagY (mkF s z y h x pv n c) = y
      ∧ flagH (mkF s z y h x pv n c) = h ∧ flagX (mkF s z y h x pv n c) = x ∧ flagPV (mkF s z y h x pv n c) = pv
      ∧ flagN (mkF s z y h x pv n c) = n ∧ flagC (mkF s z y h x pv n c) = c := by
  cases s <;> cases z <;> cases y <;> cases h <;> cases x <;> cases pv <;> cases n <;> cases c <;> decide

@[simp] theorem flagS_mkF (s z y h x pv n c : Bool) : flagS (mkF s z y h x pv n c) = s := (mkF_bits ..).1
@[simp] theorem flagZ_mkF (s z y h x pv n c : Bool) : flagZ (mkF s z y h x pv n c) = z := (mkF_bits ..).2.1
@[simp] theorem flagY_mkF (s z y h x pv n c : Bool) : flagY (mkF s z y h x pv n c) = y := (mkF_bits ..).2.2.1
@[simp] theorem flagH_mkF (s z y h x pv n c : Bool) : flagH (mkF s z y h x pv n c) = h := (mkF_bits ..).2.2.2.1
@[simp] theorem flagX_mkF (s z y h x pv n c : Bool) : flagX (mkF s z y h x pv n c) = x := (mkF_bits ..).2.2.2.2.1
@[simp] theorem flagPV_mkF (s z y h x pv n c : Bool) : flagPV (mkF s z y h x pv n c) = pv := (mkF_bits ..).2.2.2.2.2.1
@[simp] theorem flagN_mkF (s z y h x pv n c : Bool) : flagN (mkF s z y h x pv n c) = n :=
  (mkF_bits ..).2.2.2.2.2.2.1
@[simp] theorem flagC_mkF (s z y h x pv n c : Bool) : flagC (mkF s z y h x pv n c) = c :=
  (mkF_bits ..).2.2.2.2.2.2.2

/-- F is its eight bits. -/
theorem mkF_flags (f : Byte) :
    mkF (flagS f) (flagZ f) (flagY f) (flagH f) (flagX f) (flagPV f) (flagN f) (flagC f) = f := by
  revert f; decide

@[simp] theorem undocumented_values {cfg : Config} (h : cfg.undocFlags = .values) (draw : Nat) (mask f : Byte) :
    undocumented cfg draw mask f = f := by simp [undocumented, h]

/-- A bit outside the mask is never free. -/
theorem getLsbD_undocumented (cfg : Config) (draw : Nat) (mask f : Byte) (k : Nat) (h : mask.getLsbD k = false) :
    (undocumented cfg draw mask f).getLsbD k = f.getLsbD k := by
  unfold undocumented
  cases cfg.undocFlags with
  | values => rfl
  | draw =>
    by_cases hk : k < 8
    · have hm : mask[k] = false := by simpa [BitVec.getLsbD_eq_getElem hk] using h
      simp [hk, hm]
    · simp [BitVec.getLsbD_of_ge _ _ (Nat.le_of_not_lt hk)]

@[simp] theorem flagS_maskYX (cfg : Config) (d : Nat) (f : Byte) : flagS (undocumented cfg d maskYX f) = flagS f :=
  getLsbD_undocumented _ _ _ _ _ rfl
@[simp] theorem flagZ_maskYX (cfg : Config) (d : Nat) (f : Byte) : flagZ (undocumented cfg d maskYX f) = flagZ f :=
  getLsbD_undocumented _ _ _ _ _ rfl
@[simp] theorem flagH_maskYX (cfg : Config) (d : Nat) (f : Byte) : flagH (undocumented cfg d maskYX f) = flagH f :=
  getLsbD_undocumented _ _ _ _ _ rfl
@[simp] theorem flagPV_maskYX (cfg : Config) (d : Nat) (f : Byte) : flagPV (undocumented cfg d maskYX f) = flagPV f :=
  getLsbD_undocumented _ _ _ _ _ rfl
@[simp] theorem flagN_maskYX (cfg : Config) (d : Nat) (f : Byte) : flagN (undocumented cfg d maskYX f) = flagN f :=
  getLsbD_undocumented _ _ _ _ _ rfl
@[simp] theorem flagC_maskYX (cfg : Config) (d : Nat) (f : Byte) : flagC (undocumented cfg d maskYX f) = flagC f :=
  getLsbD_undocumented _ _ _ _ _ rfl
@[simp] theorem flagZ_maskNotZ (cfg : Config) (d : Nat) (f : Byte) : flagZ (undocumented cfg d maskNotZ f) = flagZ f :=
  getLsbD_undocumented _ _ _ _ _ rfl

/-- `parity` is 1 for an even number of set bits (spec/00_scope.md R12, spec/90_conflicts.md C3). -/
theorem parity_eq_evenBits (v : Byte) : parity v = evenBits v := by revert v; decide

theorem half8_eq_halfCarry (cfg : Config) (h : Bool) : half8 cfg h = halfCarry cfg h := by
  unfold half8 halfCarry
  cases cfg.hMode <;> simp

theorem zeroOf_eq (v : Byte) : zeroOf v = decide (v.toNat = 0) := by revert v; decide

/-- A packed F whose S, Z, Y and X are the helper values of a result. -/
theorem resultFlags_mkF (res : Byte) (h pv n c : Bool) :
    resultFlags (mkF (signOf res) (zeroOf res) (mirror5 res) h (mirror3 res) pv n c) res :=
  ⟨flagS_mkF .., (flagZ_mkF ..).trans (zeroOf_eq res), flagY_mkF .., flagX_mkF ..⟩

end Sys2Proof.Machine
end

