-- ==== Sys2Proof/Laws/Keeps.lean ====
section
/-! SUPPORT. What a step of an instruction can do outside its own registers (spec/40_step_machine.md R402): it leaves
the platform, the configuration and the reset state alone; IFF1 only takes the value of IFF2; a step that halts the
core ends its instruction. -/

namespace Sys2Proof.Machine

/-- What every operation of a step keeps, `enterHalted` apart. -/
structure Keeps (s t : State) : Prop where
  mem : t.mem = s.mem
  cfg : t.cfg = s.cfg
  ioIn : t.ioIn = s.ioIn
  ioTape : t.ioTape = s.ioTape
  memTape : t.memTape = s.memTape
  pins : t.pins = s.pins
  active : t.active = s.active
  resetLow : t.resetLow = s.resetLow
  resetCount : t.resetCount = s.resetCount
  iff2 : t.regs.iff2 = s.regs.iff2
  iff1 : t.regs.iff1 = s.regs.iff1 ∨ t.regs.iff1 = s.regs.iff2
  halted : t.halted = s.halted

theorem Keeps.refl (s : State) : Keeps s s := ⟨rfl, rfl, rfl, rfl, rfl, rfl, rfl, rfl, rfl, rfl, .inl rfl, rfl⟩

theorem Keeps.setAf {s t : State} {v : Word} (h : Keeps s t) : Keeps s (setAf v t) := ⟨h.mem, h.cfg, h.ioIn, h.ioTape, h.memTape, h.pins, h.active, h.resetLow, h.resetCount, h.iff2, h.iff1, h.halted⟩
theorem Keeps.setBc {s t : State} {v : Word} (h : Keeps s t) : Keeps s (setBc v t) := ⟨h.mem, h.cfg, h.ioIn, h.ioTape, h.memTape, h.pins, h.active, h.resetLow, h.resetCount, h.iff2, h.iff1, h.halted⟩
theorem Keeps.setDe {s t : State} {v : Word} (h : Keeps s t) : Keeps s (setDe v t) := ⟨h.mem, h.cfg, h.ioIn, h.ioTape, h.memTape, h.pins, h.active, h.resetLow, h.resetCount, h.iff2, h.iff1, h.halted⟩
theorem Keeps.setHl {s t : State} {v : Word} (h : Keeps s t) : Keeps s (setHl v t) := ⟨h.mem, h.cfg, h.ioIn, h.ioTape, h.memTape, h.pins, h.active, h.resetLow, h.resetCount, h.iff2, h.iff1, h.halted⟩
theorem Keeps.setPc {s t : State} {v : Word} (h : Keeps s t) : Keeps s (setPc v t) := ⟨h.mem, h.cfg, h.ioIn, h.ioTape, h.memTape, h.pins, h.active, h.resetLow, h.resetCount, h.iff2, h.iff1, h.halted⟩
theorem Keeps.setSp {s t : State} {v : Word} (h : Keeps s t) : Keeps s (setSp v t) := ⟨h.mem, h.cfg, h.ioIn, h.ioTape, h.memTape, h.pins, h.active, h.resetLow, h.resetCount, h.iff2, h.iff1, h.halted⟩
theorem Keeps.setWz {s t : State} {v : Word} (h : Keeps s t) : Keeps s (setWz v t) := ⟨h.mem, h.cfg, h.ioIn, h.ioTape, h.memTape, h.pins, h.active, h.resetLow, h.resetCount, h.iff2, h.iff1, h.halted⟩
theorem Keeps.setI {s t : State} {v : Byte} (h : Keeps s t) : Keeps s (setI v t) := ⟨h.mem, h.cfg, h.ioIn, h.ioTape, h.memTape, h.pins, h.active, h.resetLow, h.resetCount, h.iff2, h.iff1, h.halted⟩
theorem Keeps.setRefresh {s t : State} {v : Byte} (h : Keeps s t) : Keeps s (setRefresh v t) := ⟨h.mem, h.cfg, h.ioIn, h.ioTape, h.memTape, h.pins, h.active, h.resetLow, h.resetCount, h.iff2, h.iff1, h.halted⟩
theorem Keeps.setF {s t : State} {v : Byte} (h : Keeps s t) : Keeps s (setF v t) := ⟨h.mem, h.cfg, h.ioIn, h.ioTape, h.memTape, h.pins, h.active, h.resetLow, h.resetCount, h.iff2, h.iff1, h.halted⟩
theorem Keeps.setR {s t : State} {r : R8} {v : Byte} (h : Keeps s t) : Keeps s (Machine.setR r v t) := by cases r <;> exact ⟨h.mem, h.cfg, h.ioIn, h.ioTape, h.memTape, h.pins, h.active, h.resetLow, h.resetCount, h.iff2, h.iff1, h.halted⟩
theorem Keeps.setRp {s t : State} {r : RP} {v : Word} (h : Keeps s t) : Keeps s (Machine.setRp r v t) := by cases r <;> exact ⟨h.mem, h.cfg, h.ioIn, h.ioTape, h.memTape, h.pins, h.active, h.resetLow, h.resetCount, h.iff2, h.iff1, h.halted⟩
theorem Keeps.setRp2 {s t : State} {r : RP2} {v : Word} (h : Keeps s t) : Keeps s (Machine.setRp2 r v t) := by cases r <;> exact ⟨h.mem, h.cfg, h.ioIn, h.ioTape, h.memTape, h.pins, h.active, h.resetLow, h.resetCount, h.iff2, h.iff1, h.halted⟩
theorem Keeps.setX {s t : State} {xy : XY} {v : Word} (h : Keeps s t) : Keeps s (Machine.setX xy v t) := by cases xy <;> exact ⟨h.mem, h.cfg, h.ioIn, h.ioTape, h.memTape, h.pins, h.active, h.resetLow, h.resetCount, h.iff2, h.iff1, h.halted⟩
theorem Keeps.setHalf {s t : State} {xy : XY} {k : Half} {v : Byte} (h : Keeps s t) : Keeps s (Machine.setHalf xy k v t) := by cases k <;> exact h.setX
theorem Keeps.setRX {s t : State} {xy : XY} {r : R8} {v : Byte} (h : Keeps s t) : Keeps s (Machine.setRX xy r v t) := by
  cases r <;> unfold Machine.setRX <;> first | exact h.setHalf | exact h.setR
theorem Keeps.restoreIff {s t : State} (h : Keeps s t) : Keeps s (Machine.restoreIff t) := ⟨h.mem, h.cfg, h.ioIn, h.ioTape, h.memTape, h.pins, h.active, h.resetLow, h.resetCount, h.iff2, .inr h.iff2, h.halted⟩
theorem Keeps.exchangeAf {s t : State} (h : Keeps s t) : Keeps s (Machine.exchangeAf t) := ⟨h.mem, h.cfg, h.ioIn, h.ioTape, h.memTape, h.pins, h.active, h.resetLow, h.resetCount, h.iff2, h.iff1, h.halted⟩
theorem Keeps.exchangeDeHl {s t : State} (h : Keeps s t) : Keeps s (Machine.exchangeDeHl t) := ⟨h.mem, h.cfg, h.ioIn, h.ioTape, h.memTape, h.pins, h.active, h.resetLow, h.resetCount, h.iff2, h.iff1, h.halted⟩
theorem Keeps.exchangeMain {s t : State} (h : Keeps s t) : Keeps s (Machine.exchangeMain t) := ⟨h.mem, h.cfg, h.ioIn, h.ioTape, h.memTape, h.pins, h.active, h.resetLow, h.resetCount, h.iff2, h.iff1, h.halted⟩
theorem Keeps.signalDone {s t : State} (h : Keeps s t) : Keeps s (Machine.signalDone t) := ⟨h.mem, h.cfg, h.ioIn, h.ioTape, h.memTape, h.pins, h.active, h.resetLow, h.resetCount, h.iff2, h.iff1, h.halted⟩
theorem Keeps.takeLow {s t : State} (h : Keeps s t) : Keeps s (Machine.takeLow t) := ⟨h.mem, h.cfg, h.ioIn, h.ioTape, h.memTape, h.pins, h.active, h.resetLow, h.resetCount, h.iff2, h.iff1, h.halted⟩
theorem Keeps.takeHigh {s t : State} (h : Keeps s t) : Keeps s (Machine.takeHigh t) := ⟨h.mem, h.cfg, h.ioIn, h.ioTape, h.memTape, h.pins, h.active, h.resetLow, h.resetCount, h.iff2, h.iff1, h.halted⟩
theorem Keeps.settle {s t : State} (h : Keeps s t) : Keeps s (Machine.settle t) := ⟨h.mem, h.cfg, h.ioIn, h.ioTape, h.memTape, h.pins, h.active, h.resetLow, h.resetCount, h.iff2, h.iff1, h.halted⟩
theorem Keeps.reqRead {s t : State} {a : Word} (h : Keeps s t) : Keeps s (Machine.reqRead a t) := ⟨h.mem, h.cfg, h.ioIn, h.ioTape, h.memTape, h.pins, h.active, h.resetLow, h.resetCount, h.iff2, h.iff1, h.halted⟩
theorem Keeps.reqWrite {s t : State} {a : Word} {v : Byte} (h : Keeps s t) : Keeps s (Machine.reqWrite a v t) := ⟨h.mem, h.cfg, h.ioIn, h.ioTape, h.memTape, h.pins, h.active, h.resetLow, h.resetCount, h.iff2, h.iff1, h.halted⟩
theorem Keeps.reqIoRead {s t : State} {a : Word} (h : Keeps s t) : Keeps s (Machine.reqIoRead a t) := ⟨h.mem, h.cfg, h.ioIn, h.ioTape, h.memTape, h.pins, h.active, h.resetLow, h.resetCount, h.iff2, h.iff1, h.halted⟩
theorem Keeps.reqIoWrite {s t : State} {a : Word} {v : Byte} (h : Keeps s t) : Keeps s (Machine.reqIoWrite a v t) := ⟨h.mem, h.cfg, h.ioIn, h.ioTape, h.memTape, h.pins, h.active, h.resetLow, h.resetCount, h.iff2, h.iff1, h.halted⟩
theorem Keeps.reqExec {s t : State} {n : Nat} (h : Keeps s t) : Keeps s (Machine.reqExec n t) := ⟨h.mem, h.cfg, h.ioIn, h.ioTape, h.memTape, h.pins, h.active, h.resetLow, h.resetCount, h.iff2, h.iff1, h.halted⟩
theorem Keeps.holdFor {s t : State} {n : Nat} (h : Keeps s t) : Keeps s (Machine.holdFor n t) := ⟨h.mem, h.cfg, h.ioIn, h.ioTape, h.memTape, h.pins, h.active, h.resetLow, h.resetCount, h.iff2, h.iff1, h.halted⟩
theorem Keeps.setLatch {s t : State} {l : Latch} (h : Keeps s t) : Keeps s (Machine.setLatch l t) := ⟨h.mem, h.cfg, h.ioIn, h.ioTape, h.memTape, h.pins, h.active, h.resetLow, h.resetCount, h.iff2, h.iff1, h.halted⟩
theorem Keeps.setFields {s t : State} {op : Byte} (h : Keeps s t) : Keeps s (Machine.setFields op t) := ⟨h.mem, h.cfg, h.ioIn, h.ioTape, h.memTape, h.pins, h.active, h.resetLow, h.resetCount, h.iff2, h.iff1, h.halted⟩
theorem Keeps.formAddress {s t : State} {xy : XY} {d : Byte} (h : Keeps s t) : Keeps s (Machine.formAddress xy d t) := ⟨h.mem, h.cfg, h.ioIn, h.ioTape, h.memTape, h.pins, h.active, h.resetLow, h.resetCount, h.iff2, h.iff1, h.halted⟩
theorem Keeps.jumpRelative {s t : State} {e : Byte} (h : Keeps s t) : Keeps s (Machine.jumpRelative e t) := ⟨h.mem, h.cfg, h.ioIn, h.ioTape, h.memTape, h.pins, h.active, h.resetLow, h.resetCount, h.iff2, h.iff1, h.halted⟩
theorem Keeps.requestOperand {s t : State} (h : Keeps s t) : Keeps s (Machine.requestOperand t) := ⟨h.mem, h.cfg, h.ioIn, h.ioTape, h.memTape, h.pins, h.active, h.resetLow, h.resetCount, h.iff2, h.iff1, h.halted⟩
theorem Keeps.fetchUpdates {s t : State} (h : Keeps s t) : Keeps s (Machine.fetchUpdates t) := ⟨h.mem, h.cfg, h.ioIn, h.ioTape, h.memTape, h.pins, h.active, h.resetLow, h.resetCount, h.iff2, h.iff1, h.halted⟩
theorem Keeps.ite {s t u : State} {c : Prop} [Decidable c] (h : Keeps s t) (h' : Keeps s u) :
    Keeps s (if c then t else u) := by split <;> assumption
theorem Keeps.applyAlu {s t : State} {op : AluOp} {v : Byte} (h : Keeps s t) : Keeps s (Machine.applyAlu op v t) := ⟨h.mem, h.cfg, h.ioIn, h.ioTape, h.memTape, h.pins, h.active, h.resetLow, h.resetCount, h.iff2, h.iff1, h.halted⟩
theorem Keeps.applyBit {s t : State} {y : BitVec 3} {v : Byte} (h : Keeps s t) : Keeps s (Machine.applyBit y v t) := ⟨h.mem, h.cfg, h.ioIn, h.ioTape, h.memTape, h.pins, h.active, h.resetLow, h.resetCount, h.iff2, h.iff1, h.halted⟩
theorem Keeps.applyRota {s t : State} {k : RotOp} (h : Keeps s t) : Keeps s (Machine.applyRota k t) := ⟨h.mem, h.cfg, h.ioIn, h.ioTape, h.memTape, h.pins, h.active, h.resetLow, h.resetCount, h.iff2, h.iff1, h.halted⟩
theorem Keeps.applyDaa {s t : State} (h : Keeps s t) : Keeps s (Machine.applyDaa t) := ⟨h.mem, h.cfg, h.ioIn, h.ioTape, h.memTape, h.pins, h.active, h.resetLow, h.resetCount, h.iff2, h.iff1, h.halted⟩
theorem Keeps.applyCpl {s t : State} (h : Keeps s t) : Keeps s (Machine.applyCpl t) := ⟨h.mem, h.cfg, h.ioIn, h.ioTape, h.memTape, h.pins, h.active, h.resetLow, h.resetCount, h.iff2, h.iff1, h.halted⟩
theorem Keeps.applyNeg {s t : State} (h : Keeps s t) : Keeps s (Machine.applyNeg t) := ⟨h.mem, h.cfg, h.ioIn, h.ioTape, h.memTape, h.pins, h.active, h.resetLow, h.resetCount, h.iff2, h.iff1, h.halted⟩
theorem Keeps.applyScf {s t : State} (h : Keeps s t) : Keeps s (Machine.applyScf t) := ⟨h.mem, h.cfg, h.ioIn, h.ioTape, h.memTape, h.pins, h.active, h.resetLow, h.resetCount, h.iff2, h.iff1, h.halted⟩
theorem Keeps.applyCcf {s t : State} (h : Keeps s t) : Keeps s (Machine.applyCcf t) := ⟨h.mem, h.cfg, h.ioIn, h.ioTape, h.memTape, h.pins, h.active, h.resetLow, h.resetCount, h.iff2, h.iff1, h.halted⟩
theorem Keeps.applySzp {s t : State} {v : Byte} {pv : Bool} (h : Keeps s t) : Keeps s (Machine.applySzp v pv t) := ⟨h.mem, h.cfg, h.ioIn, h.ioTape, h.memTape, h.pins, h.active, h.resetLow, h.resetCount, h.iff2, h.iff1, h.halted⟩
theorem Keeps.applyAdc16 {s t : State} {b : Word} (h : Keeps s t) : Keeps s (Machine.applyAdc16 b t) := ⟨h.mem, h.cfg, h.ioIn, h.ioTape, h.memTape, h.pins, h.active, h.resetLow, h.resetCount, h.iff2, h.iff1, h.halted⟩
theorem Keeps.applySbc16 {s t : State} {b : Word} (h : Keeps s t) : Keeps s (Machine.applySbc16 b t) := ⟨h.mem, h.cfg, h.ioIn, h.ioTape, h.memTape, h.pins, h.active, h.resetLow, h.resetCount, h.iff2, h.iff1, h.halted⟩
theorem Keeps.reqPushFirst {s t : State} {v : Word} (h : Keeps s t) : Keeps s (Machine.reqPushFirst v t) := by
  unfold Machine.reqPushFirst; split <;> exact h.reqWrite
theorem Keeps.reqPushSecond {s t : State} {v : Word} (h : Keeps s t) : Keeps s (Machine.reqPushSecond v t) := by
  unfold Machine.reqPushSecond; split <;> exact h.reqWrite
theorem Keeps.reqExchangeFirst {s t : State} {v : Word} (h : Keeps s t) : Keeps s (Machine.reqExchangeFirst v t) := by
  unfold Machine.reqExchangeFirst; split <;> exact h.reqWrite
theorem Keeps.reqExchangeSecond {s t : State} {v : Word} (h : Keeps s t) : Keeps s (Machine.reqExchangeSecond v t) := by
  unfold Machine.reqExchangeSecond; split <;> exact h.reqWrite
theorem Keeps.copyResult {s t : State} {c : Option R8} {v : Byte} (h : Keeps s t) : Keeps s (Machine.copyResult c v t) := by cases c <;> first | exact h | exact h.setR
theorem Keeps.repeatOrDone {s t : State} {again : Bool} (h : Keeps s t) : Keeps s (Machine.repeatOrDone again t) := h.reqExec.ite h.signalDone
theorem Keeps.refetch {s t : State} (h : Keeps s t) : Keeps s (Machine.refetch t) := h.setPc.signalDone
theorem Keeps.applyAdd16 {s t : State} {a b : Word} {put : Word → StepFn}
    (hp : ∀ {v s t}, Keeps s t → Keeps s (put v t)) (h : Keeps s t) : Keeps s (Machine.applyAdd16 a b put t) :=
  hp h.setF

/-- A step function that keeps, whatever state it is given. -/
def KeepsFn (f : StepFn) : Prop := ∀ {s t}, Keeps s t → Keeps s (f t)

/-- An operation on a byte that keeps when putting the result does. -/
def KeepsRmw (op : Rmw) : Prop := ∀ {v put}, (∀ {x}, KeepsFn (put x)) → KeepsFn (op v put)

theorem keepsRmw_inc8 : KeepsRmw applyInc8 := fun hp _ _ h => hp h.setF
theorem keepsRmw_dec8 : KeepsRmw applyDec8 := fun hp _ _ h => hp h.setF
theorem keepsRmw_rot {k : RotOp} : KeepsRmw (applyRot k) := fun hp _ _ h => hp h.setF
theorem keepsRmw_res {y : BitVec 3} : KeepsRmw (applyRes y) := fun hp _ _ h => hp h
theorem keepsRmw_set {y : BitVec 3} : KeepsRmw (applySet y) := fun hp _ _ h => hp h

/-- What one step of a program does outside its own registers. -/
def StepKeeps (s t : State) : Prop :=
  Keeps s { t with halted := s.halted } ∧
    (t.halted = s.halted ∨ (t.halted = true ∧ t.seq.step = 0 ∧ t.latch = .none))

/-- Every step of a program. -/
def ProgramKeeps (p : Program) : Prop := ∀ f ∈ p, ∀ s, StepKeeps s (f s)

theorem Keeps.stepKeeps {s t : State} (h : Keeps s t) : StepKeeps s t :=
  ⟨⟨h.mem, h.cfg, h.ioIn, h.ioTape, h.memTape, h.pins, h.active, h.resetLow, h.resetCount, h.iff2, h.iff1, rfl⟩, .inl h.halted⟩

theorem programKeeps_nil : ProgramKeeps [] := fun _ h => nomatch h

theorem programKeeps_cons {f : StepFn} {p : Program} (hf : ∀ s, Keeps s (f s)) (hp : ProgramKeeps p) :
    ProgramKeeps (f :: p) := by
  intro g hg s
  rcases List.mem_cons.1 hg with rfl | hg
  · exact (hf s).stepKeeps
  · exact hp g hg s

/-- A program all of whose steps keep. -/
theorem programKeeps_of {p : Program} (h : p.Forall (fun f => ∀ s, Keeps s (f s))) : ProgramKeeps p :=
  fun f hf s => (List.forall_iff_forall_mem.1 h f hf s).stepKeeps

theorem programKeeps_single {f : StepFn} (hf : KeepsFn f) : ProgramKeeps (single f) :=
  programKeeps_of fun s => (hf (.refl s)).signalDone

theorem programKeeps_singleHold {n : Nat} {f : StepFn} (hf : KeepsFn f) : ProgramKeeps (singleHold n f) :=
  programKeeps_of fun s => (hf (Keeps.refl s).holdFor).signalDone

theorem programKeeps_wide16 {f : StepFn} (hf : KeepsFn f) : ProgramKeeps (wide16 f) :=
  programKeeps_of ⟨fun s => (Keeps.refl s).reqExec, fun s => (Keeps.refl s).reqExec,
    fun s => (hf (.refl s)).signalDone⟩

theorem programKeeps_readAt {addr : State → Word} {f : Byte → StepFn} (hf : ∀ {v}, KeepsFn (f v)) :
    ProgramKeeps (readAt addr f) :=
  programKeeps_of ⟨fun s => (Keeps.refl s).reqRead, fun s => (hf (.refl s)).signalDone⟩

theorem programKeeps_writeAt {addr : State → Word} {value : State → Byte} : ProgramKeeps (writeAt addr value) :=
  programKeeps_of ⟨fun s => (Keeps.refl s).reqWrite, fun s => (Keeps.refl s).signalDone⟩

theorem programKeeps_readPairAt {nn : Word} {put : Word → StepFn} (hp : ∀ {v}, KeepsFn (put v)) :
    ProgramKeeps (readPairAt nn put) :=
  programKeeps_of ⟨fun s => (Keeps.refl s).reqRead, fun s => (Keeps.refl s).takeLow.reqRead,
    fun s => (hp (.refl s)).signalDone⟩

theorem programKeeps_writePairAt {nn : Word} {get : State → Word} : ProgramKeeps (writePairAt nn get) :=
  programKeeps_of ⟨fun s => (Keeps.refl s).reqWrite, fun s => (Keeps.refl s).reqWrite,
    fun s => (Keeps.refl s).signalDone⟩

theorem programKeeps_readAtXy {xy : XY} {d : Byte} {f : Byte → StepFn} (hf : ∀ {v}, KeepsFn (f v)) :
    ProgramKeeps (readAtXy xy d f) :=
  programKeeps_of ⟨fun s => (Keeps.refl s).formAddress.reqExec, fun s => (Keeps.refl s).reqRead,
    fun s => (hf (.refl s)).signalDone⟩

theorem programKeeps_writeAtXy {xy : XY} {d : Byte} {value : State → Byte} : ProgramKeeps (writeAtXy xy d value) :=
  programKeeps_of ⟨fun s => (Keeps.refl s).formAddress.reqExec, fun s => (Keeps.refl s).reqWrite,
    fun s => (Keeps.refl s).signalDone⟩

theorem programKeeps_rmwAtHl {op : Rmw} (ho : KeepsRmw op) : ProgramKeeps (rmwAtHl op) :=
  programKeeps_of ⟨fun s => (Keeps.refl s).reqRead, fun s => ho (fun h => h.reqWrite) (Keeps.refl s).holdFor,
    fun s => (Keeps.refl s).signalDone⟩

theorem programKeeps_rmwAtXy {xy : XY} {d : Byte} {op : Rmw} (ho : KeepsRmw op) : ProgramKeeps (rmwAtXy xy d op) :=
  programKeeps_of ⟨fun s => (Keeps.refl s).formAddress.reqExec, fun s => (Keeps.refl s).reqRead,
    fun s => ho (fun h => h.reqWrite) (Keeps.refl s).holdFor, fun s => (Keeps.refl s).signalDone⟩

theorem programKeeps_rmwXyCb {xy : XY} {d : Byte} {c : Option R8} {op : Rmw} (ho : KeepsRmw op) :
    ProgramKeeps (rmwXyCb xy d c op) :=
  programKeeps_of ⟨fun s => (Keeps.refl s).formAddress.holdFor.reqRead,
    fun s => ho (fun h => h.reqWrite) (Keeps.refl s).holdFor, fun s => (Keeps.refl s).copyResult.signalDone⟩

theorem programKeeps_pushRest {v : State → Word} {after : StepFn} (ha : KeepsFn after) :
    ProgramKeeps (pushRest v after) :=
  programKeeps_of ⟨fun s => (Keeps.refl s).reqPushSecond, fun s => (ha (Keeps.refl s).setSp).signalDone⟩

theorem programKeeps_pushThen {v : State → Word} {after : StepFn} (ha : KeepsFn after) :
    ProgramKeeps (pushThen v after) :=
  programKeeps_cons (fun s => (Keeps.refl s).holdFor.reqPushFirst) (programKeeps_pushRest ha)

theorem programKeeps_popRest {put : Word → StepFn} (hp : ∀ {v}, KeepsFn (put v)) : ProgramKeeps (popRest put) :=
  programKeeps_of ⟨fun s => (Keeps.refl s).takeLow.reqRead, fun s => (hp (Keeps.refl s).setSp).signalDone⟩

theorem programKeeps_popInto {put : Word → StepFn} (hp : ∀ {v}, KeepsFn (put v)) : ProgramKeeps (popInto put) :=
  programKeeps_cons (fun s => (Keeps.refl s).reqRead) (programKeeps_popRest hp)

theorem programKeeps_exchangeAtSp {get : State → Word} {put : Word → StepFn} (hp : ∀ {v}, KeepsFn (put v)) :
    ProgramKeeps (exchangeAtSp get put) :=
  programKeeps_of ⟨fun s => (Keeps.refl s).reqRead, fun s => (Keeps.refl s).takeLow.reqRead,
    fun s => (Keeps.refl s).takeHigh.holdFor.reqExchangeFirst, fun s => (Keeps.refl s).reqExchangeSecond,
    fun s => (hp (Keeps.refl s).holdFor).signalDone⟩

theorem programKeeps_digitRotate {m a : Byte → Byte → Byte} : ProgramKeeps (digitRotate m a) :=
  programKeeps_of ⟨fun s => (Keeps.refl s).reqRead, fun s => (Keeps.refl s).reqExec,
    fun s => (Keeps.refl s).reqWrite, fun s => (Keeps.refl s).setR.applySzp.signalDone⟩

theorem programKeeps_blockLoad {inc : Word} {r : Bool} : ProgramKeeps (blockLoad inc r) :=
  programKeeps_of ⟨fun s => (Keeps.refl s).reqRead, fun s => (Keeps.refl s).reqWrite,
    fun s => (Keeps.refl s).holdFor.setHl.setDe.setBc.setF.repeatOrDone, fun s => (Keeps.refl s).refetch⟩

theorem programKeeps_blockCompare {inc : Word} {r : Bool} : ProgramKeeps (blockCompare inc r) :=
  programKeeps_of ⟨fun s => (Keeps.refl s).reqRead, fun s => (Keeps.refl s).reqExec,
    fun s => (Keeps.refl s).setHl.setBc.setF.repeatOrDone, fun s => (Keeps.refl s).refetch⟩

theorem programKeeps_blockIn {inc : Word} {r : Bool} : ProgramKeeps (blockIn inc r) :=
  programKeeps_of ⟨fun s => (Keeps.refl s).holdFor.reqIoRead, fun s => (Keeps.refl s).reqWrite,
    fun s => (Keeps.refl s).setR.setHl.setF.repeatOrDone, fun s => (Keeps.refl s).refetch⟩

theorem programKeeps_blockOut {inc : Word} {r : Bool} : ProgramKeeps (blockOut inc r) :=
  programKeeps_of ⟨fun s => (Keeps.refl s).holdFor.reqRead, fun s => (Keeps.refl s).setR.reqIoWrite,
    fun s => (Keeps.refl s).setHl.setF.repeatOrDone, fun s => (Keeps.refl s).refetch⟩

/-- `HALT` halts the core in its only step. -/
theorem programKeeps_halt : ProgramKeeps progHalt := by
  intro f hf s
  obtain rfl := List.mem_singleton.1 hf
  exact ⟨(Keeps.refl _).signalDone, .inr ⟨rfl, rfl, rfl⟩⟩

/-- The unimplemented-opcode outcome halts the core, if it does, in the instruction's only step
(spec/40_step_machine.md R412). -/
theorem programKeeps_unimplemented (code : Word) : ProgramKeeps (single (raiseUnimplemented code)) := by
  intro f hf s
  obtain rfl := List.mem_singleton.1 hf
  cases h : s.cfg.unimplPolicy <;> simp only [raiseUnimplemented, h]
  · exact ⟨⟨rfl, rfl, rfl, rfl, rfl, rfl, rfl, rfl, rfl, rfl, .inl rfl, rfl⟩, .inl rfl⟩
  · exact ⟨⟨rfl, rfl, rfl, rfl, rfl, rfl, rfl, rfl, rfl, rfl, .inl rfl, rfl⟩, .inr ⟨rfl, rfl, rfl⟩⟩

theorem keeps_progNop : ProgramKeeps (progNop) :=
  programKeeps_single (fun h => h)
theorem keeps_progExAfAf : ProgramKeeps (progExAfAf) :=
  programKeeps_single (fun h => h.exchangeAf)
theorem keeps_progDjnz {e : Byte} : ProgramKeeps (progDjnz e) :=
  programKeeps_of ⟨fun s => (Keeps.refl s).setR.signalDone.ite (Keeps.refl s).setR.reqExec,
      fun s => (Keeps.refl s).jumpRelative.signalDone⟩
theorem keeps_progJr {e : Byte} : ProgramKeeps (progJr e) :=
  programKeeps_of ⟨fun s => (Keeps.refl s).reqExec, fun s => (Keeps.refl s).jumpRelative.signalDone⟩
theorem keeps_progJrCc {cc : JCC} {e : Byte} : ProgramKeeps (progJrCc cc e) :=
  programKeeps_of ⟨fun s => (Keeps.refl s).reqExec.ite (Keeps.refl s).signalDone,
      fun s => (Keeps.refl s).jumpRelative.signalDone⟩
theorem keeps_progLdRpNn {rp : RP} {nn : Word} : ProgramKeeps (progLdRpNn rp nn) :=
  programKeeps_single (fun h => h.setRp)
theorem keeps_progAddHlRp {rp : RP} : ProgramKeeps (progAddHlRp rp) :=
  programKeeps_wide16 (fun h => h.applyAdd16 (fun h => h.setHl))
theorem keeps_progLdAtBcA : ProgramKeeps (progLdAtBcA) :=
  programKeeps_writeAt
theorem keeps_progLdAtDeA : ProgramKeeps (progLdAtDeA) :=
  programKeeps_writeAt
theorem keeps_progLdAtNnHl {nn : Word} : ProgramKeeps (progLdAtNnHl nn) :=
  programKeeps_writePairAt
theorem keeps_progLdAtNnA {nn : Word} : ProgramKeeps (progLdAtNnA nn) :=
  programKeeps_writeAt
theorem keeps_progLdAAtBc : ProgramKeeps (progLdAAtBc) :=
  programKeeps_readAt (fun h => h.setR)
theorem keeps_progLdAAtDe : ProgramKeeps (progLdAAtDe) :=
  programKeeps_readAt (fun h => h.setR)
theorem keeps_progLdHlAtNn {nn : Word} : ProgramKeeps (progLdHlAtNn nn) :=
  programKeeps_readPairAt (fun h => h.setHl)
theorem keeps_progLdAAtNn {nn : Word} : ProgramKeeps (progLdAAtNn nn) :=
  programKeeps_readAt (fun h => h.setR)
theorem keeps_progIncRp {rp : RP} : ProgramKeeps (progIncRp rp) :=
  programKeeps_singleHold (fun h => h.setRp)
theorem keeps_progDecRp {rp : RP} : ProgramKeeps (progDecRp rp) :=
  programKeeps_singleHold (fun h => h.setRp)
theorem keeps_progIncR {r : R8} : ProgramKeeps (progIncR r) :=
  programKeeps_single (fun h => keepsRmw_inc8 (fun h => h.setR) h)
theorem keeps_progIncAtHl : ProgramKeeps (progIncAtHl) :=
  programKeeps_rmwAtHl keepsRmw_inc8
theorem keeps_progDecR {r : R8} : ProgramKeeps (progDecR r) :=
  programKeeps_single (fun h => keepsRmw_dec8 (fun h => h.setR) h)
theorem keeps_progDecAtHl : ProgramKeeps (progDecAtHl) :=
  programKeeps_rmwAtHl keepsRmw_dec8
theorem keeps_progLdRN {r : R8} {n : Byte} : ProgramKeeps (progLdRN r n) :=
  programKeeps_single (fun h => h.setR)
theorem keeps_progLdAtHlN {n : Byte} : ProgramKeeps (progLdAtHlN n) :=
  programKeeps_writeAt
theorem keeps_progRlca : ProgramKeeps (progRlca) :=
  programKeeps_single (fun h => h.applyRota)
theorem keeps_progRrca : ProgramKeeps (progRrca) :=
  programKeeps_single (fun h => h.applyRota)
theorem keeps_progRla : ProgramKeeps (progRla) :=
  programKeeps_single (fun h => h.applyRota)
theorem keeps_progRra : ProgramKeeps (progRra) :=
  programKeeps_single (fun h => h.applyRota)
theorem keeps_progDaa : ProgramKeeps (progDaa) :=
  programKeeps_single (fun h => h.applyDaa)
theorem keeps_progCpl : ProgramKeeps (progCpl) :=
  programKeeps_single (fun h => h.applyCpl)
theorem keeps_progScf : ProgramKeeps (progScf) :=
  programKeeps_single (fun h => h.applyScf)
theorem keeps_progCcf : ProgramKeeps (progCcf) :=
  programKeeps_single (fun h => h.applyCcf)
theorem keeps_progLdRR {r : R8} {r' : R8} : ProgramKeeps (progLdRR r r') :=
  programKeeps_single (fun h => h.setR)
theorem keeps_progLdRAtHl {r : R8} : ProgramKeeps (progLdRAtHl r) :=
  programKeeps_readAt (fun h => h.setR)
theorem keeps_progLdAtHlR {r : R8} : ProgramKeeps (progLdAtHlR r) :=
  programKeeps_writeAt
theorem keeps_progHalt : ProgramKeeps (progHalt) :=
  programKeeps_halt
theorem keeps_progAddAR {r : R8} : ProgramKeeps (progAddAR r) :=
  programKeeps_single (fun h => h.applyAlu)
theorem keeps_progAddAAtHl : ProgramKeeps (progAddAAtHl) :=
  programKeeps_readAt (fun h => h.applyAlu)
theorem keeps_progAddAN {n : Byte} : ProgramKeeps (progAddAN n) :=
  programKeeps_single (fun h => h.applyAlu)
theorem keeps_progAdcAR {r : R8} : ProgramKeeps (progAdcAR r) :=
  programKeeps_single (fun h => h.applyAlu)
theorem keeps_progAdcAAtHl : ProgramKeeps (progAdcAAtHl) :=
  programKeeps_readAt (fun h => h.applyAlu)
theorem keeps_progAdcAN {n : Byte} : ProgramKeeps (progAdcAN n) :=
  programKeeps_single (fun h => h.applyAlu)
theorem keeps_progSubR {r : R8} : ProgramKeeps (progSubR r) :=
  programKeeps_single (fun h => h.applyAlu)
theorem keeps_progSubAtHl : ProgramKeeps (progSubAtHl) :=
  programKeeps_readAt (fun h => h.applyAlu)
theorem keeps_progSubN {n : Byte} : ProgramKeeps (progSubN n) :=
  programKeeps_single (fun h => h.applyAlu)
theorem keeps_progSbcAR {r : R8} : ProgramKeeps (progSbcAR r) :=
  programKeeps_single (fun h => h.applyAlu)
theorem keeps_progSbcAAtHl : ProgramKeeps (progSbcAAtHl) :=
  programKeeps_readAt (fun h => h.applyAlu)
theorem keeps_progSbcAN {n : Byte} : ProgramKeeps (progSbcAN n) :=
  programKeeps_single (fun h => h.applyAlu)
theorem keeps_progAndR {r : R8} : ProgramKeeps (progAndR r) :=
  programKeeps_single (fun h => h.applyAlu)
theorem keeps_progAndAtHl : ProgramKeeps (progAndAtHl) :=
  programKeeps_readAt (fun h => h.applyAlu)
theorem keeps_progAndN {n : Byte} : ProgramKeeps (progAndN n) :=
  programKeeps_single (fun h => h.applyAlu)
theorem keeps_progXorR {r : R8} : ProgramKeeps (progXorR r) :=
  programKeeps_single (fun h => h.applyAlu)
theorem keeps_progXorAtHl : ProgramKeeps (progXorAtHl) :=
  programKeeps_readAt (fun h => h.applyAlu)
theorem keeps_progXorN {n : Byte} : ProgramKeeps (progXorN n) :=
  programKeeps_single (fun h => h.applyAlu)
theorem keeps_progOrR {r : R8} : ProgramKeeps (progOrR r) :=
  programKeeps_single (fun h => h.applyAlu)
theorem keeps_progOrAtHl : ProgramKeeps (progOrAtHl) :=
  programKeeps_readAt (fun h => h.applyAlu)
theorem keeps_progOrN {n : Byte} : ProgramKeeps (progOrN n) :=
  programKeeps_single (fun h => h.applyAlu)
theorem keeps_progCpR {r : R8} : ProgramKeeps (progCpR r) :=
  programKeeps_single (fun h => h.applyAlu)
theorem keeps_progCpAtHl : ProgramKeeps (progCpAtHl) :=
  programKeeps_readAt (fun h => h.applyAlu)
theorem keeps_progCpN {n : Byte} : ProgramKeeps (progCpN n) :=
  programKeeps_single (fun h => h.applyAlu)
theorem keeps_progRetCc {cc : CC} : ProgramKeeps (progRetCc cc) :=
  programKeeps_cons (fun s => (Keeps.refl s).holdFor.reqRead.ite (Keeps.refl s).holdFor.signalDone)
      (programKeeps_popRest (fun h => h.setPc))
theorem keeps_progPopRp2 {rp2 : RP2} : ProgramKeeps (progPopRp2 rp2) :=
  programKeeps_popInto (fun h => h.setRp2)
theorem keeps_progRet : ProgramKeeps (progRet) :=
  programKeeps_popInto (fun h => h.setPc)
theorem keeps_progExx : ProgramKeeps (progExx) :=
  programKeeps_single (fun h => h.exchangeMain)
theorem keeps_progJpHl : ProgramKeeps (progJpHl) :=
  programKeeps_single (fun h => h.setPc)
theorem keeps_progLdSpHl : ProgramKeeps (progLdSpHl) :=
  programKeeps_singleHold (fun h => h.setSp)
theorem keeps_progJpCcNn {cc : CC} {nn : Word} : ProgramKeeps (progJpCcNn cc nn) :=
  programKeeps_single (fun h => h.setPc.ite h)
theorem keeps_progJpNn {nn : Word} : ProgramKeeps (progJpNn nn) :=
  programKeeps_single (fun h => h.setPc)
theorem keeps_progCbPrefix : ProgramKeeps (progCbPrefix) :=
  programKeeps_of fun s => (Keeps.refl s).setLatch
theorem keeps_progOutAtNA {n : Byte} : ProgramKeeps (progOutAtNA n) :=
  programKeeps_of ⟨fun s => (Keeps.refl s).reqIoWrite, fun s => (Keeps.refl s).signalDone⟩
theorem keeps_progInAAtN {n : Byte} : ProgramKeeps (progInAAtN n) :=
  programKeeps_of ⟨fun s => (Keeps.refl s).reqIoRead, fun s => (Keeps.refl s).setR.signalDone⟩
theorem keeps_progExAtSpHl : ProgramKeeps (progExAtSpHl) :=
  programKeeps_exchangeAtSp (fun h => h.setHl)
theorem keeps_progExDeHl : ProgramKeeps (progExDeHl) :=
  programKeeps_single (fun h => h.exchangeDeHl)
theorem keeps_progDi : ProgramKeeps (progDi) :=
  programKeeps_unimplemented _
theorem keeps_progEi : ProgramKeeps (progEi) :=
  programKeeps_unimplemented _
theorem keeps_progCallCcNn {cc : CC} {nn : Word} : ProgramKeeps (progCallCcNn cc nn) :=
  programKeeps_cons (fun s => (Keeps.refl s).holdFor.reqPushFirst.ite (Keeps.refl s).signalDone)
      (programKeeps_pushRest (fun h => h.setPc))
theorem keeps_progPushRp2 {rp2 : RP2} : ProgramKeeps (progPushRp2 rp2) :=
  programKeeps_pushThen (fun h => h)
theorem keeps_progCallNn {nn : Word} : ProgramKeeps (progCallNn nn) :=
  programKeeps_pushThen (fun h => h.setPc)
theorem keeps_progDdPrefix : ProgramKeeps (progDdPrefix) :=
  programKeeps_of fun s => (Keeps.refl s).setLatch
theorem keeps_progEdPrefix : ProgramKeeps (progEdPrefix) :=
  programKeeps_of fun s => (Keeps.refl s).setLatch
theorem keeps_progFdPrefix : ProgramKeeps (progFdPrefix) :=
  programKeeps_of fun s => (Keeps.refl s).setLatch
theorem keeps_progRst {y : BitVec 3} : ProgramKeeps (progRst y) :=
  programKeeps_pushThen (fun h => h.setPc)
theorem keeps_progRlcR {r : R8} : ProgramKeeps (progRlcR r) :=
  programKeeps_single (fun h => keepsRmw_rot (fun h => h.setR) h)
theorem keeps_progRlcAtHl : ProgramKeeps (progRlcAtHl) :=
  programKeeps_rmwAtHl keepsRmw_rot
theorem keeps_progRrcR {r : R8} : ProgramKeeps (progRrcR r) :=
  programKeeps_single (fun h => keepsRmw_rot (fun h => h.setR) h)
theorem keeps_progRrcAtHl : ProgramKeeps (progRrcAtHl) :=
  programKeeps_rmwAtHl keepsRmw_rot
theorem keeps_progRlR {r : R8} : ProgramKeeps (progRlR r) :=
  programKeeps_single (fun h => keepsRmw_rot (fun h => h.setR) h)
theorem keeps_progRlAtHl : ProgramKeeps (progRlAtHl) :=
  programKeeps_rmwAtHl keepsRmw_rot
theorem keeps_progRrR {r : R8} : ProgramKeeps (progRrR r) :=
  programKeeps_single (fun h => keepsRmw_rot (fun h => h.setR) h)
theorem keeps_progRrAtHl : ProgramKeeps (progRrAtHl) :=
  programKeeps_rmwAtHl keepsRmw_rot
theorem keeps_progSlaR {r : R8} : ProgramKeeps (progSlaR r) :=
  programKeeps_single (fun h => keepsRmw_rot (fun h => h.setR) h)
theorem keeps_progSlaAtHl : ProgramKeeps (progSlaAtHl) :=
  programKeeps_rmwAtHl keepsRmw_rot
theorem keeps_progSraR {r : R8} : ProgramKeeps (progSraR r) :=
  programKeeps_single (fun h => keepsRmw_rot (fun h => h.setR) h)
theorem keeps_progSraAtHl : ProgramKeeps (progSraAtHl) :=
  programKeeps_rmwAtHl keepsRmw_rot
theorem keeps_progSllR {r : R8} : ProgramKeeps (progSllR r) :=
  programKeeps_single (fun h => keepsRmw_rot (fun h => h.setR) h)
theorem keeps_progSllAtHl : ProgramKeeps (progSllAtHl) :=
  programKeeps_rmwAtHl keepsRmw_rot
theorem keeps_progSrlR {r : R8} : ProgramKeeps (progSrlR r) :=
  programKeeps_single (fun h => keepsRmw_rot (fun h => h.setR) h)
theorem keeps_progSrlAtHl : ProgramKeeps (progSrlAtHl) :=
  programKeeps_rmwAtHl keepsRmw_rot
theorem keeps_progBitR {b : BitVec 3} {r : R8} : ProgramKeeps (progBitR b r) :=
  programKeeps_single (fun h => h.applyBit)
theorem keeps_progBitAtHl {b : BitVec 3} : ProgramKeeps (progBitAtHl b) :=
  programKeeps_of ⟨fun s => (Keeps.refl s).reqRead, fun s => (Keeps.refl s).holdFor.applyBit.signalDone⟩
theorem keeps_progResR {b : BitVec 3} {r : R8} : ProgramKeeps (progResR b r) :=
  programKeeps_single (fun h => h.setR)
theorem keeps_progResAtHl {b : BitVec 3} : ProgramKeeps (progResAtHl b) :=
  programKeeps_rmwAtHl keepsRmw_res
theorem keeps_progSetR {b : BitVec 3} {r : R8} : ProgramKeeps (progSetR b r) :=
  programKeeps_single (fun h => h.setR)
theorem keeps_progSetAtHl {b : BitVec 3} : ProgramKeeps (progSetAtHl b) :=
  programKeeps_rmwAtHl keepsRmw_set
theorem keeps_progInRC {r : R8} : ProgramKeeps (progInRC r) :=
  programKeeps_of ⟨fun s => (Keeps.refl s).reqIoRead, fun s => (Keeps.refl s).setR.applySzp.signalDone⟩
theorem keeps_progInFlagsC : ProgramKeeps (progInFlagsC) :=
  programKeeps_of ⟨fun s => (Keeps.refl s).reqIoRead, fun s => (Keeps.refl s).applySzp.signalDone⟩
theorem keeps_progOutCR {r : R8} : ProgramKeeps (progOutCR r) :=
  programKeeps_of ⟨fun s => (Keeps.refl s).reqIoWrite, fun s => (Keeps.refl s).signalDone⟩
theorem keeps_progOutC0 : ProgramKeeps (progOutC0) :=
  programKeeps_of ⟨fun s => (Keeps.refl s).reqIoWrite, fun s => (Keeps.refl s).signalDone⟩
theorem keeps_progSbcHlRp {rp : RP} : ProgramKeeps (progSbcHlRp rp) :=
  programKeeps_wide16 (fun h => h.applySbc16)
theorem keeps_progAdcHlRp {rp : RP} : ProgramKeeps (progAdcHlRp rp) :=
  programKeeps_wide16 (fun h => h.applyAdc16)
theorem keeps_progLdAtNnRp {rp : RP} {nn : Word} : ProgramKeeps (progLdAtNnRp rp nn) :=
  programKeeps_writePairAt
theorem keeps_progLdRpAtNn {rp : RP} {nn : Word} : ProgramKeeps (progLdRpAtNn rp nn) :=
  programKeeps_readPairAt (fun h => h.setRp)
theorem keeps_progNeg {y : BitVec 3} : ProgramKeeps (progNeg y) :=
  programKeeps_single (fun h => h.applyNeg)
theorem keeps_progRetn {y : BitVec 3} : ProgramKeeps (progRetn y) :=
  programKeeps_popInto (fun h => h.setPc.restoreIff)
theorem keeps_progReti : ProgramKeeps (progReti) :=
  programKeeps_popInto (fun h => h.setPc.restoreIff)
theorem keeps_progIm {y : BitVec 3} : ProgramKeeps (progIm y) :=
  programKeeps_unimplemented _
theorem keeps_progLdIA : ProgramKeeps (progLdIA) :=
  programKeeps_singleHold (fun h => h.setI)
theorem keeps_progLdRA : ProgramKeeps (progLdRA) :=
  programKeeps_singleHold (fun h => h.setRefresh)
theorem keeps_progLdAI : ProgramKeeps (progLdAI) :=
  programKeeps_singleHold (fun h => h.setR.applySzp)
theorem keeps_progLdAR : ProgramKeeps (progLdAR) :=
  programKeeps_singleHold (fun h => h.setR.applySzp)
theorem keeps_progRrd : ProgramKeeps (progRrd) :=
  programKeeps_digitRotate
theorem keeps_progRld : ProgramKeeps (progRld) :=
  programKeeps_digitRotate
theorem keeps_progNopEd {q : BitVec 1} : ProgramKeeps (progNopEd q) :=
  programKeeps_single (fun h => h)
theorem keeps_progLdi : ProgramKeeps (progLdi) :=
  programKeeps_blockLoad
theorem keeps_progCpi : ProgramKeeps (progCpi) :=
  programKeeps_blockCompare
theorem keeps_progIni : ProgramKeeps (progIni) :=
  programKeeps_blockIn
theorem keeps_progOuti : ProgramKeeps (progOuti) :=
  programKeeps_blockOut
theorem keeps_progLdd : ProgramKeeps (progLdd) :=
  programKeeps_blockLoad
theorem keeps_progCpd : ProgramKeeps (progCpd) :=
  programKeeps_blockCompare
theorem keeps_progInd : ProgramKeeps (progInd) :=
  programKeeps_blockIn
theorem keeps_progOutd : ProgramKeeps (progOutd) :=
  programKeeps_blockOut
theorem keeps_progLdir : ProgramKeeps (progLdir) :=
  programKeeps_blockLoad
theorem keeps_progCpir : ProgramKeeps (progCpir) :=
  programKeeps_blockCompare
theorem keeps_progInir : ProgramKeeps (progInir) :=
  programKeeps_blockIn
theorem keeps_progOtir : ProgramKeeps (progOtir) :=
  programKeeps_blockOut
theorem keeps_progLddr : ProgramKeeps (progLddr) :=
  programKeeps_blockLoad
theorem keeps_progCpdr : ProgramKeeps (progCpdr) :=
  programKeeps_blockCompare
theorem keeps_progIndr : ProgramKeeps (progIndr) :=
  programKeeps_blockIn
theorem keeps_progOtdr : ProgramKeeps (progOtdr) :=
  programKeeps_blockOut
theorem keeps_progNoni {op : Byte} : ProgramKeeps (progNoni op) :=
  programKeeps_single (fun h => h)
theorem keeps_progAddIxRp {rp : RP} : ProgramKeeps (progAddIxRp rp) :=
  programKeeps_wide16 (fun h => h.applyAdd16 (fun h => h.setX))
theorem keeps_progLdIxNn {nn : Word} : ProgramKeeps (progLdIxNn nn) :=
  programKeeps_single (fun h => h.setX)
theorem keeps_progLdAtNnIx {nn : Word} : ProgramKeeps (progLdAtNnIx nn) :=
  programKeeps_writePairAt
theorem keeps_progLdIxAtNn {nn : Word} : ProgramKeeps (progLdIxAtNn nn) :=
  programKeeps_readPairAt (fun h => h.setX)
theorem keeps_progIncIx : ProgramKeeps (progIncIx) :=
  programKeeps_singleHold (fun h => h.setX)
theorem keeps_progDecIx : ProgramKeeps (progDecIx) :=
  programKeeps_singleHold (fun h => h.setX)
theorem keeps_progIncIxHalf {half : Half} : ProgramKeeps (progIncIxHalf half) :=
  programKeeps_single (fun h => keepsRmw_inc8 (fun h => h.setHalf) h)
theorem keeps_progDecIxHalf {half : Half} : ProgramKeeps (progDecIxHalf half) :=
  programKeeps_single (fun h => keepsRmw_dec8 (fun h => h.setHalf) h)
theorem keeps_progLdIxHalfN {half : Half} {n : Byte} : ProgramKeeps (progLdIxHalfN half n) :=
  programKeeps_single (fun h => h.setHalf)
theorem keeps_progIncAtIx {d : Byte} : ProgramKeeps (progIncAtIx d) :=
  programKeeps_rmwAtXy keepsRmw_inc8
theorem keeps_progDecAtIx {d : Byte} : ProgramKeeps (progDecAtIx d) :=
  programKeeps_rmwAtXy keepsRmw_dec8
theorem keeps_progLdAtIxN {d : Byte} {n : Byte} : ProgramKeeps (progLdAtIxN d n) :=
  programKeeps_of ⟨fun s => (Keeps.refl s).formAddress.holdFor.reqWrite, fun s => (Keeps.refl s).signalDone⟩
theorem keeps_progLdRRIxHalves {r : R8} {r' : R8} : ProgramKeeps (progLdRRIxHalves r r') :=
  programKeeps_single (fun h => h.setRX)
theorem keeps_progLdRAtIx {r : R8} {d : Byte} : ProgramKeeps (progLdRAtIx r d) :=
  programKeeps_readAtXy (fun h => h.setR)
theorem keeps_progLdAtIxR {d : Byte} {r : R8} : ProgramKeeps (progLdAtIxR d r) :=
  programKeeps_writeAtXy
theorem keeps_progAddAIxHalf {half : Half} : ProgramKeeps (progAddAIxHalf half) :=
  programKeeps_single (fun h => h.applyAlu)
theorem keeps_progAddAAtIx {d : Byte} : ProgramKeeps (progAddAAtIx d) :=
  programKeeps_readAtXy (fun h => h.applyAlu)
theorem keeps_progAdcAIxHalf {half : Half} : ProgramKeeps (progAdcAIxHalf half) :=
  programKeeps_single (fun h => h.applyAlu)
theorem keeps_progAdcAAtIx {d : Byte} : ProgramKeeps (progAdcAAtIx d) :=
  programKeeps_readAtXy (fun h => h.applyAlu)
theorem keeps_progSubIxHalf {half : Half} : ProgramKeeps (progSubIxHalf half) :=
  programKeeps_single (fun h => h.applyAlu)
theorem keeps_progSubAtIx {d : Byte} : ProgramKeeps (progSubAtIx d) :=
  programKeeps_readAtXy (fun h => h.applyAlu)
theorem keeps_progSbcAIxHalf {half : Half} : ProgramKeeps (progSbcAIxHalf half) :=
  programKeeps_single (fun h => h.applyAlu)
theorem keeps_progSbcAAtIx {d : Byte} : ProgramKeeps (progSbcAAtIx d) :=
  programKeeps_readAtXy (fun h => h.applyAlu)
theorem keeps_progAndIxHalf {half : Half} : ProgramKeeps (progAndIxHalf half) :=
  programKeeps_single (fun h => h.applyAlu)
theorem keeps_progAndAtIx {d : Byte} : ProgramKeeps (progAndAtIx d) :=
  programKeeps_readAtXy (fun h => h.applyAlu)
theorem keeps_progXorIxHalf {half : Half} : ProgramKeeps (progXorIxHalf half) :=
  programKeeps_single (fun h => h.applyAlu)
theorem keeps_progXorAtIx {d : Byte} : ProgramKeeps (progXorAtIx d) :=
  programKeeps_readAtXy (fun h => h.applyAlu)
theorem keeps_progOrIxHalf {half : Half} : ProgramKeeps (progOrIxHalf half) :=
  programKeeps_single (fun h => h.applyAlu)
theorem keeps_progOrAtIx {d : Byte} : ProgramKeeps (progOrAtIx d) :=
  programKeeps_readAtXy (fun h => h.applyAlu)
theorem keeps_progCpIxHalf {half : Half} : ProgramKeeps (progCpIxHalf half) :=
  programKeeps_single (fun h => h.applyAlu)
theorem keeps_progCpAtIx {d : Byte} : ProgramKeeps (progCpAtIx d) :=
  programKeeps_readAtXy (fun h => h.applyAlu)
theorem keeps_progPopIx : ProgramKeeps (progPopIx) :=
  programKeeps_popInto (fun h => h.setX)
theorem keeps_progExAtSpIx : ProgramKeeps (progExAtSpIx) :=
  programKeeps_exchangeAtSp (fun h => h.setX)
theorem keeps_progPushIx : ProgramKeeps (progPushIx) :=
  programKeeps_pushThen (fun h => h)
theorem keeps_progJpIx : ProgramKeeps (progJpIx) :=
  programKeeps_single (fun h => h.setPc)
theorem keeps_progLdSpIx : ProgramKeeps (progLdSpIx) :=
  programKeeps_singleHold (fun h => h.setSp)
theorem keeps_progDdCbPrefix : ProgramKeeps (progDdCbPrefix) :=
  programKeeps_of fun s => (Keeps.refl s).setLatch.requestOperand
theorem keeps_progDdNoEffect {op : Byte} : ProgramKeeps (progDdNoEffect op) :=
  programKeeps_of fun s => (Keeps.refl s).setLatch
theorem keeps_progRlcAtIx {d : Byte} : ProgramKeeps (progRlcAtIx d) :=
  programKeeps_rmwXyCb keepsRmw_rot
theorem keeps_progRlcAtIxR {d : Byte} {r : R8} : ProgramKeeps (progRlcAtIxR d r) :=
  programKeeps_rmwXyCb keepsRmw_rot
theorem keeps_progRrcAtIx {d : Byte} : ProgramKeeps (progRrcAtIx d) :=
  programKeeps_rmwXyCb keepsRmw_rot
theorem keeps_progRrcAtIxR {d : Byte} {r : R8} : ProgramKeeps (progRrcAtIxR d r) :=
  programKeeps_rmwXyCb keepsRmw_rot
theorem keeps_progRlAtIx {d : Byte} : ProgramKeeps (progRlAtIx d) :=
  programKeeps_rmwXyCb keepsRmw_rot
theorem keeps_progRlAtIxR {d : Byte} {r : R8} : ProgramKeeps (progRlAtIxR d r) :=
  programKeeps_rmwXyCb keepsRmw_rot
theorem keeps_progRrAtIx {d : Byte} : ProgramKeeps (progRrAtIx d) :=
  programKeeps_rmwXyCb keepsRmw_rot
theorem keeps_progRrAtIxR {d : Byte} {r : R8} : ProgramKeeps (progRrAtIxR d r) :=
  programKeeps_rmwXyCb keepsRmw_rot
theorem keeps_progSlaAtIx {d : Byte} : ProgramKeeps (progSlaAtIx d) :=
  programKeeps_rmwXyCb keepsRmw_rot
theorem keeps_progSlaAtIxR {d : Byte} {r : R8} : ProgramKeeps (progSlaAtIxR d r) :=
  programKeeps_rmwXyCb keepsRmw_rot
theorem keeps_progSraAtIx {d : Byte} : ProgramKeeps (progSraAtIx d) :=
  programKeeps_rmwXyCb keepsRmw_rot
theorem keeps_progSraAtIxR {d : Byte} {r : R8} : ProgramKeeps (progSraAtIxR d r) :=
  programKeeps_rmwXyCb keepsRmw_rot
theorem keeps_progSllAtIx {d : Byte} : ProgramKeeps (progSllAtIx d) :=
  programKeeps_rmwXyCb keepsRmw_rot
theorem keeps_progSllAtIxR {d : Byte} {r : R8} : ProgramKeeps (progSllAtIxR d r) :=
  programKeeps_rmwXyCb keepsRmw_rot
theorem keeps_progSrlAtIx {d : Byte} : ProgramKeeps (progSrlAtIx d) :=
  programKeeps_rmwXyCb keepsRmw_rot
theorem keeps_progSrlAtIxR {d : Byte} {r : R8} : ProgramKeeps (progSrlAtIxR d r) :=
  programKeeps_rmwXyCb keepsRmw_rot
theorem keeps_progBitAtIx {b : BitVec 3} {d : Byte} {z : BitVec 3} : ProgramKeeps (progBitAtIx b d z) :=
  programKeeps_of ⟨fun s => (Keeps.refl s).formAddress.holdFor.reqRead,
      fun s => (Keeps.refl s).holdFor.applyBit.signalDone⟩
theorem keeps_progResAtIx {b : BitVec 3} {d : Byte} : ProgramKeeps (progResAtIx b d) :=
  programKeeps_rmwXyCb keepsRmw_res
theorem keeps_progResAtIxR {b : BitVec 3} {d : Byte} {r : R8} : ProgramKeeps (progResAtIxR b d r) :=
  programKeeps_rmwXyCb keepsRmw_res
theorem keeps_progSetAtIx {b : BitVec 3} {d : Byte} : ProgramKeeps (progSetAtIx b d) :=
  programKeeps_rmwXyCb keepsRmw_set
theorem keeps_progSetAtIxR {b : BitVec 3} {d : Byte} {r : R8} : ProgramKeeps (progSetAtIxR b d r) :=
  programKeeps_rmwXyCb keepsRmw_set
theorem keeps_progAddIyRp {rp : RP} : ProgramKeeps (progAddIyRp rp) :=
  programKeeps_wide16 (fun h => h.applyAdd16 (fun h => h.setX))
theorem keeps_progLdIyNn {nn : Word} : ProgramKeeps (progLdIyNn nn) :=
  programKeeps_single (fun h => h.setX)
theorem keeps_progLdAtNnIy {nn : Word} : ProgramKeeps (progLdAtNnIy nn) :=
  programKeeps_writePairAt
theorem keeps_progLdIyAtNn {nn : Word} : ProgramKeeps (progLdIyAtNn nn) :=
  programKeeps_readPairAt (fun h => h.setX)
theorem keeps_progIncIy : ProgramKeeps (progIncIy) :=
  programKeeps_singleHold (fun h => h.setX)
theorem keeps_progDecIy : ProgramKeeps (progDecIy) :=
  programKeeps_singleHold (fun h => h.setX)
theorem keeps_progIncIyHalf {half : Half} : ProgramKeeps (progIncIyHalf half) :=
  programKeeps_single (fun h => keepsRmw_inc8 (fun h => h.setHalf) h)
theorem keeps_progDecIyHalf {half : Half} : ProgramKeeps (progDecIyHalf half) :=
  programKeeps_single (fun h => keepsRmw_dec8 (fun h => h.setHalf) h)
theorem keeps_progLdIyHalfN {half : Half} {n : Byte} : ProgramKeeps (progLdIyHalfN half n) :=
  programKeeps_single (fun h => h.setHalf)
theorem keeps_progIncAtIy {d : Byte} : ProgramKeeps (progIncAtIy d) :=
  programKeeps_rmwAtXy keepsRmw_inc8
theorem keeps_progDecAtIy {d : Byte} : ProgramKeeps (progDecAtIy d) :=
  programKeeps_rmwAtXy keepsRmw_dec8
theorem keeps_progLdAtIyN {d : Byte} {n : Byte} : ProgramKeeps (progLdAtIyN d n) :=
  programKeeps_of ⟨fun s => (Keeps.refl s).formAddress.holdFor.reqWrite, fun s => (Keeps.refl s).signalDone⟩
theorem keeps_progLdRRIyHalves {r : R8} {r' : R8} : ProgramKeeps (progLdRRIyHalves r r') :=
  programKeeps_single (fun h => h.setRX)
theorem keeps_progLdRAtIy {r : R8} {d : Byte} : ProgramKeeps (progLdRAtIy r d) :=
  programKeeps_readAtXy (fun h => h.setR)
theorem keeps_progLdAtIyR {d : Byte} {r : R8} : ProgramKeeps (progLdAtIyR d r) :=
  programKeeps_writeAtXy
theorem keeps_progAddAIyHalf {half : Half} : ProgramKeeps (progAddAIyHalf half) :=
  programKeeps_single (fun h => h.applyAlu)
theorem keeps_progAddAAtIy {d : Byte} : ProgramKeeps (progAddAAtIy d) :=
  programKeeps_readAtXy (fun h => h.applyAlu)
theorem keeps_progAdcAIyHalf {half : Half} : ProgramKeeps (progAdcAIyHalf half) :=
  programKeeps_single (fun h => h.applyAlu)
theorem keeps_progAdcAAtIy {d : Byte} : ProgramKeeps (progAdcAAtIy d) :=
  programKeeps_readAtXy (fun h => h.applyAlu)
theorem keeps_progSubIyHalf {half : Half} : ProgramKeeps (progSubIyHalf half) :=
  programKeeps_single (fun h => h.applyAlu)
theorem keeps_progSubAtIy {d : Byte} : ProgramKeeps (progSubAtIy d) :=
  programKeeps_readAtXy (fun h => h.applyAlu)
theorem keeps_progSbcAIyHalf {half : Half} : ProgramKeeps (progSbcAIyHalf half) :=
  programKeeps_single (fun h => h.applyAlu)
theorem keeps_progSbcAAtIy {d : Byte} : ProgramKeeps (progSbcAAtIy d) :=
  programKeeps_readAtXy (fun h => h.applyAlu)
theorem keeps_progAndIyHalf {half : Half} : ProgramKeeps (progAndIyHalf half) :=
  programKeeps_single (fun h => h.applyAlu)
theorem keeps_progAndAtIy {d : Byte} : ProgramKeeps (progAndAtIy d) :=
  programKeeps_readAtXy (fun h => h.applyAlu)
theorem keeps_progXorIyHalf {half : Half} : ProgramKeeps (progXorIyHalf half) :=
  programKeeps_single (fun h => h.applyAlu)
theorem keeps_progXorAtIy {d : Byte} : ProgramKeeps (progXorAtIy d) :=
  programKeeps_readAtXy (fun h => h.applyAlu)
theorem keeps_progOrIyHalf {half : Half} : ProgramKeeps (progOrIyHalf half) :=
  programKeeps_single (fun h => h.applyAlu)
theorem keeps_progOrAtIy {d : Byte} : ProgramKeeps (progOrAtIy d) :=
  programKeeps_readAtXy (fun h => h.applyAlu)
theorem keeps_progCpIyHalf {half : Half} : ProgramKeeps (progCpIyHalf half) :=
  programKeeps_single (fun h => h.applyAlu)
theorem keeps_progCpAtIy {d : Byte} : ProgramKeeps (progCpAtIy d) :=
  programKeeps_readAtXy (fun h => h.applyAlu)
theorem keeps_progPopIy : ProgramKeeps (progPopIy) :=
  programKeeps_popInto (fun h => h.setX)
theorem keeps_progExAtSpIy : ProgramKeeps (progExAtSpIy) :=
  programKeeps_exchangeAtSp (fun h => h.setX)
theorem keeps_progPushIy : ProgramKeeps (progPushIy) :=
  programKeeps_pushThen (fun h => h)
theorem keeps_progJpIy : ProgramKeeps (progJpIy) :=
  programKeeps_single (fun h => h.setPc)
theorem keeps_progLdSpIy : ProgramKeeps (progLdSpIy) :=
  programKeeps_singleHold (fun h => h.setSp)
theorem keeps_progFdCbPrefix : ProgramKeeps (progFdCbPrefix) :=
  programKeeps_of fun s => (Keeps.refl s).setLatch.requestOperand
theorem keeps_progFdNoEffect {op : Byte} : ProgramKeeps (progFdNoEffect op) :=
  programKeeps_of fun s => (Keeps.refl s).setLatch
theorem keeps_progRlcAtIy {d : Byte} : ProgramKeeps (progRlcAtIy d) :=
  programKeeps_rmwXyCb keepsRmw_rot
theorem keeps_progRlcAtIyR {d : Byte} {r : R8} : ProgramKeeps (progRlcAtIyR d r) :=
  programKeeps_rmwXyCb keepsRmw_rot
theorem keeps_progRrcAtIy {d : Byte} : ProgramKeeps (progRrcAtIy d) :=
  programKeeps_rmwXyCb keepsRmw_rot
theorem keeps_progRrcAtIyR {d : Byte} {r : R8} : ProgramKeeps (progRrcAtIyR d r) :=
  programKeeps_rmwXyCb keepsRmw_rot
theorem keeps_progRlAtIy {d : Byte} : ProgramKeeps (progRlAtIy d) :=
  programKeeps_rmwXyCb keepsRmw_rot
theorem keeps_progRlAtIyR {d : Byte} {r : R8} : ProgramKeeps (progRlAtIyR d r) :=
  programKeeps_rmwXyCb keepsRmw_rot
theorem keeps_progRrAtIy {d : Byte} : ProgramKeeps (progRrAtIy d) :=
  programKeeps_rmwXyCb keepsRmw_rot
theorem keeps_progRrAtIyR {d : Byte} {r : R8} : ProgramKeeps (progRrAtIyR d r) :=
  programKeeps_rmwXyCb keepsRmw_rot
theorem keeps_progSlaAtIy {d : Byte} : ProgramKeeps (progSlaAtIy d) :=
  programKeeps_rmwXyCb keepsRmw_rot
theorem keeps_progSlaAtIyR {d : Byte} {r : R8} : ProgramKeeps (progSlaAtIyR d r) :=
  programKeeps_rmwXyCb keepsRmw_rot
theorem keeps_progSraAtIy {d : Byte} : ProgramKeeps (progSraAtIy d) :=
  programKeeps_rmwXyCb keepsRmw_rot
theorem keeps_progSraAtIyR {d : Byte} {r : R8} : ProgramKeeps (progSraAtIyR d r) :=
  programKeeps_rmwXyCb keepsRmw_rot
theorem keeps_progSllAtIy {d : Byte} : ProgramKeeps (progSllAtIy d) :=
  programKeeps_rmwXyCb keepsRmw_rot
theorem keeps_progSllAtIyR {d : Byte} {r : R8} : ProgramKeeps (progSllAtIyR d r) :=
  programKeeps_rmwXyCb keepsRmw_rot
theorem keeps_progSrlAtIy {d : Byte} : ProgramKeeps (progSrlAtIy d) :=
  programKeeps_rmwXyCb keepsRmw_rot
theorem keeps_progSrlAtIyR {d : Byte} {r : R8} : ProgramKeeps (progSrlAtIyR d r) :=
  programKeeps_rmwXyCb keepsRmw_rot
theorem keeps_progBitAtIy {b : BitVec 3} {d : Byte} {z : BitVec 3} : ProgramKeeps (progBitAtIy b d z) :=
  programKeeps_of ⟨fun s => (Keeps.refl s).formAddress.holdFor.reqRead,
      fun s => (Keeps.refl s).holdFor.applyBit.signalDone⟩
theorem keeps_progResAtIy {b : BitVec 3} {d : Byte} : ProgramKeeps (progResAtIy b d) :=
  programKeeps_rmwXyCb keepsRmw_res
theorem keeps_progResAtIyR {b : BitVec 3} {d : Byte} {r : R8} : ProgramKeeps (progResAtIyR b d r) :=
  programKeeps_rmwXyCb keepsRmw_res
theorem keeps_progSetAtIy {b : BitVec 3} {d : Byte} : ProgramKeeps (progSetAtIy b d) :=
  programKeeps_rmwXyCb keepsRmw_set
theorem keeps_progSetAtIyR {b : BitVec 3} {d : Byte} {r : R8} : ProgramKeeps (progSetAtIyR b d r) :=
  programKeeps_rmwXyCb keepsRmw_set

/-- What a step of any instruction does outside its own registers. -/
theorem programOf_keeps (i : Instr) : ProgramKeeps (programOf i) := by
  cases i with
  | nop => exact @keeps_progNop
  | exAfAf => exact @keeps_progExAfAf
  | djnz e => exact @keeps_progDjnz e
  | jr e => exact @keeps_progJr e
  | jrCc cc e => exact @keeps_progJrCc cc e
  | ldRpNn rp nn => exact @keeps_progLdRpNn rp nn
  | addHlRp rp => exact @keeps_progAddHlRp rp
  | ldAtBcA => exact @keeps_progLdAtBcA
  | ldAtDeA => exact @keeps_progLdAtDeA
  | ldAtNnHl nn => exact @keeps_progLdAtNnHl nn
  | ldAtNnA nn => exact @keeps_progLdAtNnA nn
  | ldAAtBc => exact @keeps_progLdAAtBc
  | ldAAtDe => exact @keeps_progLdAAtDe
  | ldHlAtNn nn => exact @keeps_progLdHlAtNn nn
  | ldAAtNn nn => exact @keeps_progLdAAtNn nn
  | incRp rp => exact @keeps_progIncRp rp
  | decRp rp => exact @keeps_progDecRp rp
  | incR r => exact @keeps_progIncR r
  | incAtHl => exact @keeps_progIncAtHl
  | decR r => exact @keeps_progDecR r
  | decAtHl => exact @keeps_progDecAtHl
  | ldRN r n => exact @keeps_progLdRN r n
  | ldAtHlN n => exact @keeps_progLdAtHlN n
  | rlca => exact @keeps_progRlca
  | rrca => exact @keeps_progRrca
  | rla => exact @keeps_progRla
  | rra => exact @keeps_progRra
  | daa => exact @keeps_progDaa
  | cpl => exact @keeps_progCpl
  | scf => exact @keeps_progScf
  | ccf => exact @keeps_progCcf
  | ldRR r r' => exact @keeps_progLdRR r r'
  | ldRAtHl r => exact @keeps_progLdRAtHl r
  | ldAtHlR r => exact @keeps_progLdAtHlR r
  | halt => exact @keeps_progHalt
  | addAR r => exact @keeps_progAddAR r
  | addAAtHl => exact @keeps_progAddAAtHl
  | addAN n => exact @keeps_progAddAN n
  | adcAR r => exact @keeps_progAdcAR r
  | adcAAtHl => exact @keeps_progAdcAAtHl
  | adcAN n => exact @keeps_progAdcAN n
  | subR r => exact @keeps_progSubR r
  | subAtHl => exact @keeps_progSubAtHl
  | subN n => exact @keeps_progSubN n
  | sbcAR r => exact @keeps_progSbcAR r
  | sbcAAtHl => exact @keeps_progSbcAAtHl
  | sbcAN n => exact @keeps_progSbcAN n
  | andR r => exact @keeps_progAndR r
  | andAtHl => exact @keeps_progAndAtHl
  | andN n => exact @keeps_progAndN n
  | xorR r => exact @keeps_progXorR r
  | xorAtHl => exact @keeps_progXorAtHl
  | xorN n => exact @keeps_progXorN n
  | orR r => exact @keeps_progOrR r
  | orAtHl => exact @keeps_progOrAtHl
  | orN n => exact @keeps_progOrN n
  | cpR r => exact @keeps_progCpR r
  | cpAtHl => exact @keeps_progCpAtHl
  | cpN n => exact @keeps_progCpN n
  | retCc cc => exact @keeps_progRetCc cc
  | popRp2 rp2 => exact @keeps_progPopRp2 rp2
  | ret => exact @keeps_progRet
  | exx => exact @keeps_progExx
  | jpHl => exact @keeps_progJpHl
  | ldSpHl => exact @keeps_progLdSpHl
  | jpCcNn cc nn => exact @keeps_progJpCcNn cc nn
  | jpNn nn => exact @keeps_progJpNn nn
  | cbPrefix => exact @keeps_progCbPrefix
  | outAtNA n => exact @keeps_progOutAtNA n
  | inAAtN n => exact @keeps_progInAAtN n
  | exAtSpHl => exact @keeps_progExAtSpHl
  | exDeHl => exact @keeps_progExDeHl
  | di => exact @keeps_progDi
  | ei => exact @keeps_progEi
  | callCcNn cc nn => exact @keeps_progCallCcNn cc nn
  | pushRp2 rp2 => exact @keeps_progPushRp2 rp2
  | callNn nn => exact @keeps_progCallNn nn
  | ddPrefix => exact @keeps_progDdPrefix
  | edPrefix => exact @keeps_progEdPrefix
  | fdPrefix => exact @keeps_progFdPrefix
  | rst y => exact @keeps_progRst y
  | rlcR r => exact @keeps_progRlcR r
  | rlcAtHl => exact @keeps_progRlcAtHl
  | rrcR r => exact @keeps_progRrcR r
  | rrcAtHl => exact @keeps_progRrcAtHl
  | rlR r => exact @keeps_progRlR r
  | rlAtHl => exact @keeps_progRlAtHl
  | rrR r => exact @keeps_progRrR r
  | rrAtHl => exact @keeps_progRrAtHl
  | slaR r => exact @keeps_progSlaR r
  | slaAtHl => exact @keeps_progSlaAtHl
  | sraR r => exact @keeps_progSraR r
  | sraAtHl => exact @keeps_progSraAtHl
  | sllR r => exact @keeps_progSllR r
  | sllAtHl => exact @keeps_progSllAtHl
  | srlR r => exact @keeps_progSrlR r
  | srlAtHl => exact @keeps_progSrlAtHl
  | bitR b r => exact @keeps_progBitR b r
  | bitAtHl b => exact @keeps_progBitAtHl b
  | resR b r => exact @keeps_progResR b r
  | resAtHl b => exact @keeps_progResAtHl b
  | setR b r => exact @keeps_progSetR b r
  | setAtHl b => exact @keeps_progSetAtHl b
  | inRC r => exact @keeps_progInRC r
  | inFlagsC => exact @keeps_progInFlagsC
  | outCR r => exact @keeps_progOutCR r
  | outC0 => exact @keeps_progOutC0
  | sbcHlRp rp => exact @keeps_progSbcHlRp rp
  | adcHlRp rp => exact @keeps_progAdcHlRp rp
  | ldAtNnRp rp nn => exact @keeps_progLdAtNnRp rp nn
  | ldRpAtNn rp nn => exact @keeps_progLdRpAtNn rp nn
  | neg y => exact @keeps_progNeg y
  | retn y => exact @keeps_progRetn y
  | reti => exact @keeps_progReti
  | im y => exact @keeps_progIm y
  | ldIA => exact @keeps_progLdIA
  | ldRA => exact @keeps_progLdRA
  | ldAI => exact @keeps_progLdAI
  | ldAR => exact @keeps_progLdAR
  | rrd => exact @keeps_progRrd
  | rld => exact @keeps_progRld
  | nopEd q => exact @keeps_progNopEd q
  | ldi => exact @keeps_progLdi
  | cpi => exact @keeps_progCpi
  | ini => exact @keeps_progIni
  | outi => exact @keeps_progOuti
  | ldd => exact @keeps_progLdd
  | cpd => exact @keeps_progCpd
  | ind => exact @keeps_progInd
  | outd => exact @keeps_progOutd
  | ldir => exact @keeps_progLdir
  | cpir => exact @keeps_progCpir
  | inir => exact @keeps_progInir
  | otir => exact @keeps_progOtir
  | lddr => exact @keeps_progLddr
  | cpdr => exact @keeps_progCpdr
  | indr => exact @keeps_progIndr
  | otdr => exact @keeps_progOtdr
  | noni op => exact @keeps_progNoni op
  | addIxRp rp => exact @keeps_progAddIxRp rp
  | ldIxNn nn => exact @keeps_progLdIxNn nn
  | ldAtNnIx nn => exact @keeps_progLdAtNnIx nn
  | ldIxAtNn nn => exact @keeps_progLdIxAtNn nn
  | incIx => exact @keeps_progIncIx
  | decIx => exact @keeps_progDecIx
  | incIxHalf half => exact @keeps_progIncIxHalf half
  | decIxHalf half => exact @keeps_progDecIxHalf half
  | ldIxHalfN half n => exact @keeps_progLdIxHalfN half n
  | incAtIx d => exact @keeps_progIncAtIx d
  | decAtIx d => exact @keeps_progDecAtIx d
  | ldAtIxN d n => exact @keeps_progLdAtIxN d n
  | ldRRIxHalves r r' => exact @keeps_progLdRRIxHalves r r'
  | ldRAtIx r d => exact @keeps_progLdRAtIx r d
  | ldAtIxR d r => exact @keeps_progLdAtIxR d r
  | addAIxHalf half => exact @keeps_progAddAIxHalf half
  | addAAtIx d => exact @keeps_progAddAAtIx d
  | adcAIxHalf half => exact @keeps_progAdcAIxHalf half
  | adcAAtIx d => exact @keeps_progAdcAAtIx d
  | subIxHalf half => exact @keeps_progSubIxHalf half
  | subAtIx d => exact @keeps_progSubAtIx d
  | sbcAIxHalf half => exact @keeps_progSbcAIxHalf half
  | sbcAAtIx d => exact @keeps_progSbcAAtIx d
  | andIxHalf half => exact @keeps_progAndIxHalf half
  | andAtIx d => exact @keeps_progAndAtIx d
  | xorIxHalf half => exact @keeps_progXorIxHalf half
  | xorAtIx d => exact @keeps_progXorAtIx d
  | orIxHalf half => exact @keeps_progOrIxHalf half
  | orAtIx d => exact @keeps_progOrAtIx d
  | cpIxHalf half => exact @keeps_progCpIxHalf half
  | cpAtIx d => exact @keeps_progCpAtIx d
  | popIx => exact @keeps_progPopIx
  | exAtSpIx => exact @keeps_progExAtSpIx
  | pushIx => exact @keeps_progPushIx
  | jpIx => exact @keeps_progJpIx
  | ldSpIx => exact @keeps_progLdSpIx
  | ddCbPrefix => exact @keeps_progDdCbPrefix
  | ddNoEffect op => exact @keeps_progDdNoEffect op
  | rlcAtIx d => exact @keeps_progRlcAtIx d
  | rlcAtIxR d r => exact @keeps_progRlcAtIxR d r
  | rrcAtIx d => exact @keeps_progRrcAtIx d
  | rrcAtIxR d r => exact @keeps_progRrcAtIxR d r
  | rlAtIx d => exact @keeps_progRlAtIx d
  | rlAtIxR d r => exact @keeps_progRlAtIxR d r
  | rrAtIx d => exact @keeps_progRrAtIx d
  | rrAtIxR d r => exact @keeps_progRrAtIxR d r
  | slaAtIx d => exact @keeps_progSlaAtIx d
  | slaAtIxR d r => exact @keeps_progSlaAtIxR d r
  | sraAtIx d => exact @keeps_progSraAtIx d
  | sraAtIxR d r => exact @keeps_progSraAtIxR d r
  | sllAtIx d => exact @keeps_progSllAtIx d
  | sllAtIxR d r => exact @keeps_progSllAtIxR d r
  | srlAtIx d => exact @keeps_progSrlAtIx d
  | srlAtIxR d r => exact @keeps_progSrlAtIxR d r
  | bitAtIx b d z => exact @keeps_progBitAtIx b d z
  | resAtIx b d => exact @keeps_progResAtIx b d
  | resAtIxR b d r => exact @keeps_progResAtIxR b d r
  | setAtIx b d => exact @keeps_progSetAtIx b d
  | setAtIxR b d r => exact @keeps_progSetAtIxR b d r
  | addIyRp rp => exact @keeps_progAddIyRp rp
  | ldIyNn nn => exact @keeps_progLdIyNn nn
  | ldAtNnIy nn => exact @keeps_progLdAtNnIy nn
  | ldIyAtNn nn => exact @keeps_progLdIyAtNn nn
  | incIy => exact @keeps_progIncIy
  | decIy => exact @keeps_progDecIy
  | incIyHalf half => exact @keeps_progIncIyHalf half
  | decIyHalf half => exact @keeps_progDecIyHalf half
  | ldIyHalfN half n => exact @keeps_progLdIyHalfN half n
  | incAtIy d => exact @keeps_progIncAtIy d
  | decAtIy d => exact @keeps_progDecAtIy d
  | ldAtIyN d n => exact @keeps_progLdAtIyN d n
  | ldRRIyHalves r r' => exact @keeps_progLdRRIyHalves r r'
  | ldRAtIy r d => exact @keeps_progLdRAtIy r d
  | ldAtIyR d r => exact @keeps_progLdAtIyR d r
  | addAIyHalf half => exact @keeps_progAddAIyHalf half
  | addAAtIy d => exact @keeps_progAddAAtIy d
  | adcAIyHalf half => exact @keeps_progAdcAIyHalf half
  | adcAAtIy d => exact @keeps_progAdcAAtIy d
  | subIyHalf half => exact @keeps_progSubIyHalf half
  | subAtIy d => exact @keeps_progSubAtIy d
  | sbcAIyHalf half => exact @keeps_progSbcAIyHalf half
  | sbcAAtIy d => exact @keeps_progSbcAAtIy d
  | andIyHalf half => exact @keeps_progAndIyHalf half
  | andAtIy d => exact @keeps_progAndAtIy d
  | xorIyHalf half => exact @keeps_progXorIyHalf half
  | xorAtIy d => exact @keeps_progXorAtIy d
  | orIyHalf half => exact @keeps_progOrIyHalf half
  | orAtIy d => exact @keeps_progOrAtIy d
  | cpIyHalf half => exact @keeps_progCpIyHalf half
  | cpAtIy d => exact @keeps_progCpAtIy d
  | popIy => exact @keeps_progPopIy
  | exAtSpIy => exact @keeps_progExAtSpIy
  | pushIy => exact @keeps_progPushIy
  | jpIy => exact @keeps_progJpIy
  | ldSpIy => exact @keeps_progLdSpIy
  | fdCbPrefix => exact @keeps_progFdCbPrefix
  | fdNoEffect op => exact @keeps_progFdNoEffect op
  | rlcAtIy d => exact @keeps_progRlcAtIy d
  | rlcAtIyR d r => exact @keeps_progRlcAtIyR d r
  | rrcAtIy d => exact @keeps_progRrcAtIy d
  | rrcAtIyR d r => exact @keeps_progRrcAtIyR d r
  | rlAtIy d => exact @keeps_progRlAtIy d
  | rlAtIyR d r => exact @keeps_progRlAtIyR d r
  | rrAtIy d => exact @keeps_progRrAtIy d
  | rrAtIyR d r => exact @keeps_progRrAtIyR d r
  | slaAtIy d => exact @keeps_progSlaAtIy d
  | slaAtIyR d r => exact @keeps_progSlaAtIyR d r
  | sraAtIy d => exact @keeps_progSraAtIy d
  | sraAtIyR d r => exact @keeps_progSraAtIyR d r
  | sllAtIy d => exact @keeps_progSllAtIy d
  | sllAtIyR d r => exact @keeps_progSllAtIyR d r
  | srlAtIy d => exact @keeps_progSrlAtIy d
  | srlAtIyR d r => exact @keeps_progSrlAtIyR d r
  | bitAtIy b d z => exact @keeps_progBitAtIy b d z
  | resAtIy b d => exact @keeps_progResAtIy b d
  | resAtIyR b d r => exact @keeps_progResAtIyR b d r
  | setAtIy b d => exact @keeps_progSetAtIy b d
  | setAtIyR b d r => exact @keeps_progSetAtIyR b d r

end Sys2Proof.Machine
end

