-- ==== Sys2Proof/Laws/PerInstr.lean ====
section
/-! SUPPORT. The family `Unit`, one lemma per constructor: the bytes the encoder gives an instruction's unit decode to
it, and their number is the decoder's (spec/30_encoding.md R301, R324; the length of the DDCB and FDCB forms: log 29). -/

namespace Sys2Proof.Laws.Unit

open Sys2Proof.Machine

/-- What follows the first byte of the unit. -/
def rest (i : Instr) : List Byte := (encodeUnit i).tail ++ lookahead i

/-- The unit of a well-formed instruction decodes to it. -/
def Statement (i : Instr) : Prop :=
  wellFormed i = true →
    decodeUnit (latchOf i) ((encodeUnit i).headD 0) ((rest i).headD 0xCB#8) ((rest i).getD 1 0) = i
      ∧ operandCount (latchOf i) ((encodeUnit i).headD 0) = (encodeUnit i).tail.length

theorem opX_mkOp (x : BitVec 2) (y z : BitVec 3) : opX (mkOp x y z) = x := by revert x y z; decide
theorem opY_mkOp (x : BitVec 2) (y z : BitVec 3) : opY (mkOp x y z) = y := by revert x y z; decide
theorem opZ_mkOp (x : BitVec 2) (y z : BitVec 3) : opZ (mkOp x y z) = z := by revert x y z; decide

theorem nop : Statement (.nop) := by
  refine fun _ => ⟨show decodeUnit .none 0x00#8 0xCB#8 0 = .nop from ?_, show operandCount .none 0x00#8 = 0 from ?_⟩ <;> rfl

theorem exAfAf : Statement (.exAfAf) := by
  refine fun _ => ⟨show decodeUnit .none 0x08#8 0xCB#8 0 = .exAfAf from ?_, show operandCount .none 0x08#8 = 0 from ?_⟩ <;> rfl

theorem djnz (e : Byte) : Statement (.djnz e) := by
  refine fun _ => ⟨show decodeUnit .none 0x10#8 e 0 = .djnz e from ?_, show operandCount .none 0x10#8 = 1 from ?_⟩ <;> rfl

theorem jr (e : Byte) : Statement (.jr e) := by
  refine fun _ => ⟨show decodeUnit .none 0x18#8 e 0 = .jr e from ?_, show operandCount .none 0x18#8 = 1 from ?_⟩ <;> rfl

theorem jrCc (cc : JCC) (e : Byte) : Statement (.jrCc cc e) := by
  refine fun _ => ⟨show decodeUnit .none (mkOp 0 cc.code 0) e 0 = .jrCc cc e from ?_, show operandCount .none (mkOp 0 cc.code 0) = 1 from ?_⟩ <;> cases cc <;> rfl

theorem ldRpNn (rp : RP) (nn : Word) : Statement (.ldRpNn rp nn) := by
  intro _
  refine ⟨?_, ?_⟩
  · show decodeUnit .none (mkOpPQ 0 rp.code 0 1) (lo8 nn) (hi8 nn) = .ldRpNn rp nn
    conv_rhs => rw [← mk16_hi8_lo8 nn]
    cases rp <;> rfl
  · show operandCount .none (mkOpPQ 0 rp.code 0 1) = 2
    cases rp <;> rfl

theorem addHlRp (rp : RP) : Statement (.addHlRp rp) := by
  refine fun _ => ⟨show decodeUnit .none (mkOpPQ 0 rp.code 1 1) 0xCB#8 0 = .addHlRp rp from ?_, show operandCount .none (mkOpPQ 0 rp.code 1 1) = 0 from ?_⟩ <;> cases rp <;> rfl

theorem ldAtBcA : Statement (.ldAtBcA) := by
  refine fun _ => ⟨show decodeUnit .none 0x02#8 0xCB#8 0 = .ldAtBcA from ?_, show operandCount .none 0x02#8 = 0 from ?_⟩ <;> rfl

theorem ldAtDeA : Statement (.ldAtDeA) := by
  refine fun _ => ⟨show decodeUnit .none 0x12#8 0xCB#8 0 = .ldAtDeA from ?_, show operandCount .none 0x12#8 = 0 from ?_⟩ <;> rfl

theorem ldAtNnHl (nn : Word) : Statement (.ldAtNnHl nn) := by
  intro _
  refine ⟨?_, ?_⟩
  · show decodeUnit .none 0x22#8 (lo8 nn) (hi8 nn) = .ldAtNnHl nn
    conv_rhs => rw [← mk16_hi8_lo8 nn]
    rfl
  · show operandCount .none 0x22#8 = 2
    rfl

theorem ldAtNnA (nn : Word) : Statement (.ldAtNnA nn) := by
  intro _
  refine ⟨?_, ?_⟩
  · show decodeUnit .none 0x32#8 (lo8 nn) (hi8 nn) = .ldAtNnA nn
    conv_rhs => rw [← mk16_hi8_lo8 nn]
    rfl
  · show operandCount .none 0x32#8 = 2
    rfl

theorem ldAAtBc : Statement (.ldAAtBc) := by
  refine fun _ => ⟨show decodeUnit .none 0x0A#8 0xCB#8 0 = .ldAAtBc from ?_, show operandCount .none 0x0A#8 = 0 from ?_⟩ <;> rfl

theorem ldAAtDe : Statement (.ldAAtDe) := by
  refine fun _ => ⟨show decodeUnit .none 0x1A#8 0xCB#8 0 = .ldAAtDe from ?_, show operandCount .none 0x1A#8 = 0 from ?_⟩ <;> rfl

theorem ldHlAtNn (nn : Word) : Statement (.ldHlAtNn nn) := by
  intro _
  refine ⟨?_, ?_⟩
  · show decodeUnit .none 0x2A#8 (lo8 nn) (hi8 nn) = .ldHlAtNn nn
    conv_rhs => rw [← mk16_hi8_lo8 nn]
    rfl
  · show operandCount .none 0x2A#8 = 2
    rfl

theorem ldAAtNn (nn : Word) : Statement (.ldAAtNn nn) := by
  intro _
  refine ⟨?_, ?_⟩
  · show decodeUnit .none 0x3A#8 (lo8 nn) (hi8 nn) = .ldAAtNn nn
    conv_rhs => rw [← mk16_hi8_lo8 nn]
    rfl
  · show operandCount .none 0x3A#8 = 2
    rfl

theorem incRp (rp : RP) : Statement (.incRp rp) := by
  refine fun _ => ⟨show decodeUnit .none (mkOpPQ 0 rp.code 0 3) 0xCB#8 0 = .incRp rp from ?_, show operandCount .none (mkOpPQ 0 rp.code 0 3) = 0 from ?_⟩ <;> cases rp <;> rfl

theorem decRp (rp : RP) : Statement (.decRp rp) := by
  refine fun _ => ⟨show decodeUnit .none (mkOpPQ 0 rp.code 1 3) 0xCB#8 0 = .decRp rp from ?_, show operandCount .none (mkOpPQ 0 rp.code 1 3) = 0 from ?_⟩ <;> cases rp <;> rfl

theorem incR (r : R8) : Statement (.incR r) := by
  refine fun _ => ⟨show decodeUnit .none (mkOp 0 r.code 4) 0xCB#8 0 = .incR r from ?_, show operandCount .none (mkOp 0 r.code 4) = 0 from ?_⟩ <;> cases r <;> rfl

theorem incAtHl : Statement (.incAtHl) := by
  refine fun _ => ⟨show decodeUnit .none 0x34#8 0xCB#8 0 = .incAtHl from ?_, show operandCount .none 0x34#8 = 0 from ?_⟩ <;> rfl

theorem decR (r : R8) : Statement (.decR r) := by
  refine fun _ => ⟨show decodeUnit .none (mkOp 0 r.code 5) 0xCB#8 0 = .decR r from ?_, show operandCount .none (mkOp 0 r.code 5) = 0 from ?_⟩ <;> cases r <;> rfl

theorem decAtHl : Statement (.decAtHl) := by
  refine fun _ => ⟨show decodeUnit .none 0x35#8 0xCB#8 0 = .decAtHl from ?_, show operandCount .none 0x35#8 = 0 from ?_⟩ <;> rfl

theorem ldRN (r : R8) (n : Byte) : Statement (.ldRN r n) := by
  refine fun _ => ⟨show decodeUnit .none (mkOp 0 r.code 6) n 0 = .ldRN r n from ?_, show operandCount .none (mkOp 0 r.code 6) = 1 from ?_⟩ <;> cases r <;> rfl

theorem ldAtHlN (n : Byte) : Statement (.ldAtHlN n) := by
  refine fun _ => ⟨show decodeUnit .none 0x36#8 n 0 = .ldAtHlN n from ?_, show operandCount .none 0x36#8 = 1 from ?_⟩ <;> rfl

theorem rlca : Statement (.rlca) := by
  refine fun _ => ⟨show decodeUnit .none 0x07#8 0xCB#8 0 = .rlca from ?_, show operandCount .none 0x07#8 = 0 from ?_⟩ <;> rfl

theorem rrca : Statement (.rrca) := by
  refine fun _ => ⟨show decodeUnit .none 0x0F#8 0xCB#8 0 = .rrca from ?_, show operandCount .none 0x0F#8 = 0 from ?_⟩ <;> rfl

theorem rla : Statement (.rla) := by
  refine fun _ => ⟨show decodeUnit .none 0x17#8 0xCB#8 0 = .rla from ?_, show operandCount .none 0x17#8 = 0 from ?_⟩ <;> rfl

theorem rra : Statement (.rra) := by
  refine fun _ => ⟨show decodeUnit .none 0x1F#8 0xCB#8 0 = .rra from ?_, show operandCount .none 0x1F#8 = 0 from ?_⟩ <;> rfl

theorem daa : Statement (.daa) := by
  refine fun _ => ⟨show decodeUnit .none 0x27#8 0xCB#8 0 = .daa from ?_, show operandCount .none 0x27#8 = 0 from ?_⟩ <;> rfl

theorem cpl : Statement (.cpl) := by
  refine fun _ => ⟨show decodeUnit .none 0x2F#8 0xCB#8 0 = .cpl from ?_, show operandCount .none 0x2F#8 = 0 from ?_⟩ <;> rfl

theorem scf : Statement (.scf) := by
  refine fun _ => ⟨show decodeUnit .none 0x37#8 0xCB#8 0 = .scf from ?_, show operandCount .none 0x37#8 = 0 from ?_⟩ <;> rfl

theorem ccf : Statement (.ccf) := by
  refine fun _ => ⟨show decodeUnit .none 0x3F#8 0xCB#8 0 = .ccf from ?_, show operandCount .none 0x3F#8 = 0 from ?_⟩ <;> rfl

theorem ldRR (r : R8) (r' : R8) : Statement (.ldRR r r') := by
  refine fun _ => ⟨show decodeUnit .none (mkOp 1 r.code r'.code) 0xCB#8 0 = .ldRR r r' from ?_, show operandCount .none (mkOp 1 r.code r'.code) = 0 from ?_⟩ <;> cases r <;> cases r' <;> rfl

theorem ldRAtHl (r : R8) : Statement (.ldRAtHl r) := by
  refine fun _ => ⟨show decodeUnit .none (mkOp 1 r.code 6) 0xCB#8 0 = .ldRAtHl r from ?_, show operandCount .none (mkOp 1 r.code 6) = 0 from ?_⟩ <;> cases r <;> rfl

theorem ldAtHlR (r : R8) : Statement (.ldAtHlR r) := by
  refine fun _ => ⟨show decodeUnit .none (mkOp 1 6 r.code) 0xCB#8 0 = .ldAtHlR r from ?_, show operandCount .none (mkOp 1 6 r.code) = 0 from ?_⟩ <;> cases r <;> rfl

theorem halt : Statement (.halt) := by
  refine fun _ => ⟨show decodeUnit .none 0x76#8 0xCB#8 0 = .halt from ?_, show operandCount .none 0x76#8 = 0 from ?_⟩ <;> rfl

theorem addAR (r : R8) : Statement (.addAR r) := by
  refine fun _ => ⟨show decodeUnit .none (mkOp 2 0 r.code) 0xCB#8 0 = .addAR r from ?_, show operandCount .none (mkOp 2 0 r.code) = 0 from ?_⟩ <;> cases r <;> rfl

theorem addAAtHl : Statement (.addAAtHl) := by
  refine fun _ => ⟨show decodeUnit .none (mkOp 2 0 6) 0xCB#8 0 = .addAAtHl from ?_, show operandCount .none (mkOp 2 0 6) = 0 from ?_⟩ <;> rfl

theorem addAN (n : Byte) : Statement (.addAN n) := by
  refine fun _ => ⟨show decodeUnit .none (mkOp 3 0 6) n 0 = .addAN n from ?_, show operandCount .none (mkOp 3 0 6) = 1 from ?_⟩ <;> rfl

theorem adcAR (r : R8) : Statement (.adcAR r) := by
  refine fun _ => ⟨show decodeUnit .none (mkOp 2 1 r.code) 0xCB#8 0 = .adcAR r from ?_, show operandCount .none (mkOp 2 1 r.code) = 0 from ?_⟩ <;> cases r <;> rfl

theorem adcAAtHl : Statement (.adcAAtHl) := by
  refine fun _ => ⟨show decodeUnit .none (mkOp 2 1 6) 0xCB#8 0 = .adcAAtHl from ?_, show operandCount .none (mkOp 2 1 6) = 0 from ?_⟩ <;> rfl

theorem adcAN (n : Byte) : Statement (.adcAN n) := by
  refine fun _ => ⟨show decodeUnit .none (mkOp 3 1 6) n 0 = .adcAN n from ?_, show operandCount .none (mkOp 3 1 6) = 1 from ?_⟩ <;> rfl

theorem subR (r : R8) : Statement (.subR r) := by
  refine fun _ => ⟨show decodeUnit .none (mkOp 2 2 r.code) 0xCB#8 0 = .subR r from ?_, show operandCount .none (mkOp 2 2 r.code) = 0 from ?_⟩ <;> cases r <;> rfl

theorem subAtHl : Statement (.subAtHl) := by
  refine fun _ => ⟨show decodeUnit .none (mkOp 2 2 6) 0xCB#8 0 = .subAtHl from ?_, show operandCount .none (mkOp 2 2 6) = 0 from ?_⟩ <;> rfl

theorem subN (n : Byte) : Statement (.subN n) := by
  refine fun _ => ⟨show decodeUnit .none (mkOp 3 2 6) n 0 = .subN n from ?_, show operandCount .none (mkOp 3 2 6) = 1 from ?_⟩ <;> rfl

theorem sbcAR (r : R8) : Statement (.sbcAR r) := by
  refine fun _ => ⟨show decodeUnit .none (mkOp 2 3 r.code) 0xCB#8 0 = .sbcAR r from ?_, show operandCount .none (mkOp 2 3 r.code) = 0 from ?_⟩ <;> cases r <;> rfl

theorem sbcAAtHl : Statement (.sbcAAtHl) := by
  refine fun _ => ⟨show decodeUnit .none (mkOp 2 3 6) 0xCB#8 0 = .sbcAAtHl from ?_, show operandCount .none (mkOp 2 3 6) = 0 from ?_⟩ <;> rfl

theorem sbcAN (n : Byte) : Statement (.sbcAN n) := by
  refine fun _ => ⟨show decodeUnit .none (mkOp 3 3 6) n 0 = .sbcAN n from ?_, show operandCount .none (mkOp 3 3 6) = 1 from ?_⟩ <;> rfl

theorem andR (r : R8) : Statement (.andR r) := by
  refine fun _ => ⟨show decodeUnit .none (mkOp 2 4 r.code) 0xCB#8 0 = .andR r from ?_, show operandCount .none (mkOp 2 4 r.code) = 0 from ?_⟩ <;> cases r <;> rfl

theorem andAtHl : Statement (.andAtHl) := by
  refine fun _ => ⟨show decodeUnit .none (mkOp 2 4 6) 0xCB#8 0 = .andAtHl from ?_, show operandCount .none (mkOp 2 4 6) = 0 from ?_⟩ <;> rfl

theorem andN (n : Byte) : Statement (.andN n) := by
  refine fun _ => ⟨show decodeUnit .none (mkOp 3 4 6) n 0 = .andN n from ?_, show operandCount .none (mkOp 3 4 6) = 1 from ?_⟩ <;> rfl

theorem xorR (r : R8) : Statement (.xorR r) := by
  refine fun _ => ⟨show decodeUnit .none (mkOp 2 5 r.code) 0xCB#8 0 = .xorR r from ?_, show operandCount .none (mkOp 2 5 r.code) = 0 from ?_⟩ <;> cases r <;> rfl

theorem xorAtHl : Statement (.xorAtHl) := by
  refine fun _ => ⟨show decodeUnit .none (mkOp 2 5 6) 0xCB#8 0 = .xorAtHl from ?_, show operandCount .none (mkOp 2 5 6) = 0 from ?_⟩ <;> rfl

theorem xorN (n : Byte) : Statement (.xorN n) := by
  refine fun _ => ⟨show decodeUnit .none (mkOp 3 5 6) n 0 = .xorN n from ?_, show operandCount .none (mkOp 3 5 6) = 1 from ?_⟩ <;> rfl

theorem orR (r : R8) : Statement (.orR r) := by
  refine fun _ => ⟨show decodeUnit .none (mkOp 2 6 r.code) 0xCB#8 0 = .orR r from ?_, show operandCount .none (mkOp 2 6 r.code) = 0 from ?_⟩ <;> cases r <;> rfl

theorem orAtHl : Statement (.orAtHl) := by
  refine fun _ => ⟨show decodeUnit .none (mkOp 2 6 6) 0xCB#8 0 = .orAtHl from ?_, show operandCount .none (mkOp 2 6 6) = 0 from ?_⟩ <;> rfl

theorem orN (n : Byte) : Statement (.orN n) := by
  refine fun _ => ⟨show decodeUnit .none (mkOp 3 6 6) n 0 = .orN n from ?_, show operandCount .none (mkOp 3 6 6) = 1 from ?_⟩ <;> rfl

theorem cpR (r : R8) : Statement (.cpR r) := by
  refine fun _ => ⟨show decodeUnit .none (mkOp 2 7 r.code) 0xCB#8 0 = .cpR r from ?_, show operandCount .none (mkOp 2 7 r.code) = 0 from ?_⟩ <;> cases r <;> rfl

theorem cpAtHl : Statement (.cpAtHl) := by
  refine fun _ => ⟨show decodeUnit .none (mkOp 2 7 6) 0xCB#8 0 = .cpAtHl from ?_, show operandCount .none (mkOp 2 7 6) = 0 from ?_⟩ <;> rfl

theorem cpN (n : Byte) : Statement (.cpN n) := by
  refine fun _ => ⟨show decodeUnit .none (mkOp 3 7 6) n 0 = .cpN n from ?_, show operandCount .none (mkOp 3 7 6) = 1 from ?_⟩ <;> rfl

theorem retCc (cc : CC) : Statement (.retCc cc) := by
  refine fun _ => ⟨show decodeUnit .none (mkOp 3 cc.code 0) 0xCB#8 0 = .retCc cc from ?_, show operandCount .none (mkOp 3 cc.code 0) = 0 from ?_⟩ <;> cases cc <;> rfl

theorem popRp2 (rp2 : RP2) : Statement (.popRp2 rp2) := by
  refine fun _ => ⟨show decodeUnit .none (mkOpPQ 3 rp2.code 0 1) 0xCB#8 0 = .popRp2 rp2 from ?_, show operandCount .none (mkOpPQ 3 rp2.code 0 1) = 0 from ?_⟩ <;> cases rp2 <;> rfl

theorem ret : Statement (.ret) := by
  refine fun _ => ⟨show decodeUnit .none 0xC9#8 0xCB#8 0 = .ret from ?_, show operandCount .none 0xC9#8 = 0 from ?_⟩ <;> rfl

theorem exx : Statement (.exx) := by
  refine fun _ => ⟨show decodeUnit .none 0xD9#8 0xCB#8 0 = .exx from ?_, show operandCount .none 0xD9#8 = 0 from ?_⟩ <;> rfl

theorem jpHl : Statement (.jpHl) := by
  refine fun _ => ⟨show decodeUnit .none 0xE9#8 0xCB#8 0 = .jpHl from ?_, show operandCount .none 0xE9#8 = 0 from ?_⟩ <;> rfl

theorem ldSpHl : Statement (.ldSpHl) := by
  refine fun _ => ⟨show decodeUnit .none 0xF9#8 0xCB#8 0 = .ldSpHl from ?_, show operandCount .none 0xF9#8 = 0 from ?_⟩ <;> rfl

theorem jpCcNn (cc : CC) (nn : Word) : Statement (.jpCcNn cc nn) := by
  intro _
  refine ⟨?_, ?_⟩
  · show decodeUnit .none (mkOp 3 cc.code 2) (lo8 nn) (hi8 nn) = .jpCcNn cc nn
    conv_rhs => rw [← mk16_hi8_lo8 nn]
    cases cc <;> rfl
  · show operandCount .none (mkOp 3 cc.code 2) = 2
    cases cc <;> rfl

theorem jpNn (nn : Word) : Statement (.jpNn nn) := by
  intro _
  refine ⟨?_, ?_⟩
  · show decodeUnit .none 0xC3#8 (lo8 nn) (hi8 nn) = .jpNn nn
    conv_rhs => rw [← mk16_hi8_lo8 nn]
    rfl
  · show operandCount .none 0xC3#8 = 2
    rfl

theorem cbPrefix : Statement (.cbPrefix) := by
  refine fun _ => ⟨show decodeUnit .none 0xCB#8 0xCB#8 0 = .cbPrefix from ?_, show operandCount .none 0xCB#8 = 0 from ?_⟩ <;> rfl

theorem outAtNA (n : Byte) : Statement (.outAtNA n) := by
  refine fun _ => ⟨show decodeUnit .none 0xD3#8 n 0 = .outAtNA n from ?_, show operandCount .none 0xD3#8 = 1 from ?_⟩ <;> rfl

theorem inAAtN (n : Byte) : Statement (.inAAtN n) := by
  refine fun _ => ⟨show decodeUnit .none 0xDB#8 n 0 = .inAAtN n from ?_, show operandCount .none 0xDB#8 = 1 from ?_⟩ <;> rfl

theorem exAtSpHl : Statement (.exAtSpHl) := by
  refine fun _ => ⟨show decodeUnit .none 0xE3#8 0xCB#8 0 = .exAtSpHl from ?_, show operandCount .none 0xE3#8 = 0 from ?_⟩ <;> rfl

theorem exDeHl : Statement (.exDeHl) := by
  refine fun _ => ⟨show decodeUnit .none 0xEB#8 0xCB#8 0 = .exDeHl from ?_, show operandCount .none 0xEB#8 = 0 from ?_⟩ <;> rfl

theorem di : Statement (.di) := by
  refine fun _ => ⟨show decodeUnit .none 0xF3#8 0xCB#8 0 = .di from ?_, show operandCount .none 0xF3#8 = 0 from ?_⟩ <;> rfl

theorem ei : Statement (.ei) := by
  refine fun _ => ⟨show decodeUnit .none 0xFB#8 0xCB#8 0 = .ei from ?_, show operandCount .none 0xFB#8 = 0 from ?_⟩ <;> rfl

theorem callCcNn (cc : CC) (nn : Word) : Statement (.callCcNn cc nn) := by
  intro _
  refine ⟨?_, ?_⟩
  · show decodeUnit .none (mkOp 3 cc.code 4) (lo8 nn) (hi8 nn) = .callCcNn cc nn
    conv_rhs => rw [← mk16_hi8_lo8 nn]
    cases cc <;> rfl
  · show operandCount .none (mkOp 3 cc.code 4) = 2
    cases cc <;> rfl

theorem pushRp2 (rp2 : RP2) : Statement (.pushRp2 rp2) := by
  refine fun _ => ⟨show decodeUnit .none (mkOpPQ 3 rp2.code 0 5) 0xCB#8 0 = .pushRp2 rp2 from ?_, show operandCount .none (mkOpPQ 3 rp2.code 0 5) = 0 from ?_⟩ <;> cases rp2 <;> rfl

theorem callNn (nn : Word) : Statement (.callNn nn) := by
  intro _
  refine ⟨?_, ?_⟩
  · show decodeUnit .none 0xCD#8 (lo8 nn) (hi8 nn) = .callNn nn
    conv_rhs => rw [← mk16_hi8_lo8 nn]
    rfl
  · show operandCount .none 0xCD#8 = 2
    rfl

theorem ddPrefix : Statement (.ddPrefix) := by
  refine fun _ => ⟨show decodeUnit .none 0xDD#8 0xCB#8 0 = .ddPrefix from ?_, show operandCount .none 0xDD#8 = 0 from ?_⟩ <;> rfl

theorem edPrefix : Statement (.edPrefix) := by
  refine fun _ => ⟨show decodeUnit .none 0xED#8 0xCB#8 0 = .edPrefix from ?_, show operandCount .none 0xED#8 = 0 from ?_⟩ <;> rfl

theorem fdPrefix : Statement (.fdPrefix) := by
  refine fun _ => ⟨show decodeUnit .none 0xFD#8 0xCB#8 0 = .fdPrefix from ?_, show operandCount .none 0xFD#8 = 0 from ?_⟩ <;> rfl

theorem rst (y : BitVec 3) : Statement (.rst y) := by
  revert y; unfold Statement; decide

theorem rlcR (r : R8) : Statement (.rlcR r) := by
  refine fun _ => ⟨show decodeUnit .cb (mkOp 0 0 r.code) 0xCB#8 0 = .rlcR r from ?_, show operandCount .cb (mkOp 0 0 r.code) = 0 from ?_⟩ <;> cases r <;> rfl

theorem rlcAtHl : Statement (.rlcAtHl) := by
  refine fun _ => ⟨show decodeUnit .cb (mkOp 0 0 6) 0xCB#8 0 = .rlcAtHl from ?_, show operandCount .cb (mkOp 0 0 6) = 0 from ?_⟩ <;> rfl

theorem rrcR (r : R8) : Statement (.rrcR r) := by
  refine fun _ => ⟨show decodeUnit .cb (mkOp 0 1 r.code) 0xCB#8 0 = .rrcR r from ?_, show operandCount .cb (mkOp 0 1 r.code) = 0 from ?_⟩ <;> cases r <;> rfl

theorem rrcAtHl : Statement (.rrcAtHl) := by
  refine fun _ => ⟨show decodeUnit .cb (mkOp 0 1 6) 0xCB#8 0 = .rrcAtHl from ?_, show operandCount .cb (mkOp 0 1 6) = 0 from ?_⟩ <;> rfl

theorem rlR (r : R8) : Statement (.rlR r) := by
  refine fun _ => ⟨show decodeUnit .cb (mkOp 0 2 r.code) 0xCB#8 0 = .rlR r from ?_, show operandCount .cb (mkOp 0 2 r.code) = 0 from ?_⟩ <;> cases r <;> rfl

theorem rlAtHl : Statement (.rlAtHl) := by
  refine fun _ => ⟨show decodeUnit .cb (mkOp 0 2 6) 0xCB#8 0 = .rlAtHl from ?_, show operandCount .cb (mkOp 0 2 6) = 0 from ?_⟩ <;> rfl

theorem rrR (r : R8) : Statement (.rrR r) := by
  refine fun _ => ⟨show decodeUnit .cb (mkOp 0 3 r.code) 0xCB#8 0 = .rrR r from ?_, show operandCount .cb (mkOp 0 3 r.code) = 0 from ?_⟩ <;> cases r <;> rfl

theorem rrAtHl : Statement (.rrAtHl) := by
  refine fun _ => ⟨show decodeUnit .cb (mkOp 0 3 6) 0xCB#8 0 = .rrAtHl from ?_, show operandCount .cb (mkOp 0 3 6) = 0 from ?_⟩ <;> rfl

theorem slaR (r : R8) : Statement (.slaR r) := by
  refine fun _ => ⟨show decodeUnit .cb (mkOp 0 4 r.code) 0xCB#8 0 = .slaR r from ?_, show operandCount .cb (mkOp 0 4 r.code) = 0 from ?_⟩ <;> cases r <;> rfl

theorem slaAtHl : Statement (.slaAtHl) := by
  refine fun _ => ⟨show decodeUnit .cb (mkOp 0 4 6) 0xCB#8 0 = .slaAtHl from ?_, show operandCount .cb (mkOp 0 4 6) = 0 from ?_⟩ <;> rfl

theorem sraR (r : R8) : Statement (.sraR r) := by
  refine fun _ => ⟨show decodeUnit .cb (mkOp 0 5 r.code) 0xCB#8 0 = .sraR r from ?_, show operandCount .cb (mkOp 0 5 r.code) = 0 from ?_⟩ <;> cases r <;> rfl

theorem sraAtHl : Statement (.sraAtHl) := by
  refine fun _ => ⟨show decodeUnit .cb (mkOp 0 5 6) 0xCB#8 0 = .sraAtHl from ?_, show operandCount .cb (mkOp 0 5 6) = 0 from ?_⟩ <;> rfl

theorem sllR (r : R8) : Statement (.sllR r) := by
  refine fun _ => ⟨show decodeUnit .cb (mkOp 0 6 r.code) 0xCB#8 0 = .sllR r from ?_, show operandCount .cb (mkOp 0 6 r.code) = 0 from ?_⟩ <;> cases r <;> rfl

theorem sllAtHl : Statement (.sllAtHl) := by
  refine fun _ => ⟨show decodeUnit .cb (mkOp 0 6 6) 0xCB#8 0 = .sllAtHl from ?_, show operandCount .cb (mkOp 0 6 6) = 0 from ?_⟩ <;> rfl

theorem srlR (r : R8) : Statement (.srlR r) := by
  refine fun _ => ⟨show decodeUnit .cb (mkOp 0 7 r.code) 0xCB#8 0 = .srlR r from ?_, show operandCount .cb (mkOp 0 7 r.code) = 0 from ?_⟩ <;> cases r <;> rfl

theorem srlAtHl : Statement (.srlAtHl) := by
  refine fun _ => ⟨show decodeUnit .cb (mkOp 0 7 6) 0xCB#8 0 = .srlAtHl from ?_, show operandCount .cb (mkOp 0 7 6) = 0 from ?_⟩ <;> rfl

theorem bitR (b : BitVec 3) (r : R8) : Statement (.bitR b r) := by
  intro _
  refine ⟨?_, rfl⟩
  show decodeUnit .cb (mkOp 1 b r.code) 0xCB#8 0 = .bitR b r
  simp only [decodeUnit, decodeCb, opX_mkOp, opY_mkOp, opZ_mkOp]
  cases r <;> rfl

theorem bitAtHl (b : BitVec 3) : Statement (.bitAtHl b) := by
  revert b; unfold Statement; decide

theorem resR (b : BitVec 3) (r : R8) : Statement (.resR b r) := by
  intro _
  refine ⟨?_, rfl⟩
  show decodeUnit .cb (mkOp 2 b r.code) 0xCB#8 0 = .resR b r
  simp only [decodeUnit, decodeCb, opX_mkOp, opY_mkOp, opZ_mkOp]
  cases r <;> rfl

theorem resAtHl (b : BitVec 3) : Statement (.resAtHl b) := by
  revert b; unfold Statement; decide

theorem setR (b : BitVec 3) (r : R8) : Statement (.setR b r) := by
  intro _
  refine ⟨?_, rfl⟩
  show decodeUnit .cb (mkOp 3 b r.code) 0xCB#8 0 = .setR b r
  simp only [decodeUnit, decodeCb, opX_mkOp, opY_mkOp, opZ_mkOp]
  cases r <;> rfl

theorem setAtHl (b : BitVec 3) : Statement (.setAtHl b) := by
  revert b; unfold Statement; decide

theorem inRC (r : R8) : Statement (.inRC r) := by
  refine fun _ => ⟨show decodeUnit .ed (mkOp 1 r.code 0) 0xCB#8 0 = .inRC r from ?_, show operandCount .ed (mkOp 1 r.code 0) = 0 from ?_⟩ <;> cases r <;> rfl

theorem inFlagsC : Statement (.inFlagsC) := by
  refine fun _ => ⟨show decodeUnit .ed 0x70#8 0xCB#8 0 = .inFlagsC from ?_, show operandCount .ed 0x70#8 = 0 from ?_⟩ <;> rfl

theorem outCR (r : R8) : Statement (.outCR r) := by
  refine fun _ => ⟨show decodeUnit .ed (mkOp 1 r.code 1) 0xCB#8 0 = .outCR r from ?_, show operandCount .ed (mkOp 1 r.code 1) = 0 from ?_⟩ <;> cases r <;> rfl

theorem outC0 : Statement (.outC0) := by
  refine fun _ => ⟨show decodeUnit .ed 0x71#8 0xCB#8 0 = .outC0 from ?_, show operandCount .ed 0x71#8 = 0 from ?_⟩ <;> rfl

theorem sbcHlRp (rp : RP) : Statement (.sbcHlRp rp) := by
  refine fun _ => ⟨show decodeUnit .ed (mkOpPQ 1 rp.code 0 2) 0xCB#8 0 = .sbcHlRp rp from ?_, show operandCount .ed (mkOpPQ 1 rp.code 0 2) = 0 from ?_⟩ <;> cases rp <;> rfl

theorem adcHlRp (rp : RP) : Statement (.adcHlRp rp) := by
  refine fun _ => ⟨show decodeUnit .ed (mkOpPQ 1 rp.code 1 2) 0xCB#8 0 = .adcHlRp rp from ?_, show operandCount .ed (mkOpPQ 1 rp.code 1 2) = 0 from ?_⟩ <;> cases rp <;> rfl

theorem ldAtNnRp (rp : RP) (nn : Word) : Statement (.ldAtNnRp rp nn) := by
  intro _
  refine ⟨?_, ?_⟩
  · show decodeUnit .ed (mkOpPQ 1 rp.code 0 3) (lo8 nn) (hi8 nn) = .ldAtNnRp rp nn
    conv_rhs => rw [← mk16_hi8_lo8 nn]
    cases rp <;> rfl
  · show operandCount .ed (mkOpPQ 1 rp.code 0 3) = 2
    cases rp <;> rfl

theorem ldRpAtNn (rp : RP) (nn : Word) : Statement (.ldRpAtNn rp nn) := by
  intro _
  refine ⟨?_, ?_⟩
  · show decodeUnit .ed (mkOpPQ 1 rp.code 1 3) (lo8 nn) (hi8 nn) = .ldRpAtNn rp nn
    conv_rhs => rw [← mk16_hi8_lo8 nn]
    cases rp <;> rfl
  · show operandCount .ed (mkOpPQ 1 rp.code 1 3) = 2
    cases rp <;> rfl

theorem neg (y : BitVec 3) : Statement (.neg y) := by
  revert y; unfold Statement; decide

theorem retn (y : BitVec 3) : Statement (.retn y) := by
  revert y; unfold Statement; decide

theorem reti : Statement (.reti) := by
  refine fun _ => ⟨show decodeUnit .ed 0x4D#8 0xCB#8 0 = .reti from ?_, show operandCount .ed 0x4D#8 = 0 from ?_⟩ <;> rfl

theorem im (y : BitVec 3) : Statement (.im y) := by
  revert y; unfold Statement; decide

theorem ldIA : Statement (.ldIA) := by
  refine fun _ => ⟨show decodeUnit .ed 0x47#8 0xCB#8 0 = .ldIA from ?_, show operandCount .ed 0x47#8 = 0 from ?_⟩ <;> rfl

theorem ldRA : Statement (.ldRA) := by
  refine fun _ => ⟨show decodeUnit .ed 0x4F#8 0xCB#8 0 = .ldRA from ?_, show operandCount .ed 0x4F#8 = 0 from ?_⟩ <;> rfl

theorem ldAI : Statement (.ldAI) := by
  refine fun _ => ⟨show decodeUnit .ed 0x57#8 0xCB#8 0 = .ldAI from ?_, show operandCount .ed 0x57#8 = 0 from ?_⟩ <;> rfl

theorem ldAR : Statement (.ldAR) := by
  refine fun _ => ⟨show decodeUnit .ed 0x5F#8 0xCB#8 0 = .ldAR from ?_, show operandCount .ed 0x5F#8 = 0 from ?_⟩ <;> rfl

theorem rrd : Statement (.rrd) := by
  refine fun _ => ⟨show decodeUnit .ed 0x67#8 0xCB#8 0 = .rrd from ?_, show operandCount .ed 0x67#8 = 0 from ?_⟩ <;> rfl

theorem rld : Statement (.rld) := by
  refine fun _ => ⟨show decodeUnit .ed 0x6F#8 0xCB#8 0 = .rld from ?_, show operandCount .ed 0x6F#8 = 0 from ?_⟩ <;> rfl

theorem nopEd (q : BitVec 1) : Statement (.nopEd q) := by
  revert q; unfold Statement; decide

theorem ldi : Statement (.ldi) := by
  refine fun _ => ⟨show decodeUnit .ed 0xA0#8 0xCB#8 0 = .ldi from ?_, show operandCount .ed 0xA0#8 = 0 from ?_⟩ <;> rfl

theorem cpi : Statement (.cpi) := by
  refine fun _ => ⟨show decodeUnit .ed 0xA1#8 0xCB#8 0 = .cpi from ?_, show operandCount .ed 0xA1#8 = 0 from ?_⟩ <;> rfl

theorem ini : Statement (.ini) := by
  refine fun _ => ⟨show decodeUnit .ed 0xA2#8 0xCB#8 0 = .ini from ?_, show operandCount .ed 0xA2#8 = 0 from ?_⟩ <;> rfl

theorem outi : Statement (.outi) := by
  refine fun _ => ⟨show decodeUnit .ed 0xA3#8 0xCB#8 0 = .outi from ?_, show operandCount .ed 0xA3#8 = 0 from ?_⟩ <;> rfl

theorem ldd : Statement (.ldd) := by
  refine fun _ => ⟨show decodeUnit .ed 0xA8#8 0xCB#8 0 = .ldd from ?_, show operandCount .ed 0xA8#8 = 0 from ?_⟩ <;> rfl

theorem cpd : Statement (.cpd) := by
  refine fun _ => ⟨show decodeUnit .ed 0xA9#8 0xCB#8 0 = .cpd from ?_, show operandCount .ed 0xA9#8 = 0 from ?_⟩ <;> rfl

theorem ind : Statement (.ind) := by
  refine fun _ => ⟨show decodeUnit .ed 0xAA#8 0xCB#8 0 = .ind from ?_, show operandCount .ed 0xAA#8 = 0 from ?_⟩ <;> rfl

theorem outd : Statement (.outd) := by
  refine fun _ => ⟨show decodeUnit .ed 0xAB#8 0xCB#8 0 = .outd from ?_, show operandCount .ed 0xAB#8 = 0 from ?_⟩ <;> rfl

theorem ldir : Statement (.ldir) := by
  refine fun _ => ⟨show decodeUnit .ed 0xB0#8 0xCB#8 0 = .ldir from ?_, show operandCount .ed 0xB0#8 = 0 from ?_⟩ <;> rfl

theorem cpir : Statement (.cpir) := by
  refine fun _ => ⟨show decodeUnit .ed 0xB1#8 0xCB#8 0 = .cpir from ?_, show operandCount .ed 0xB1#8 = 0 from ?_⟩ <;> rfl

theorem inir : Statement (.inir) := by
  refine fun _ => ⟨show decodeUnit .ed 0xB2#8 0xCB#8 0 = .inir from ?_, show operandCount .ed 0xB2#8 = 0 from ?_⟩ <;> rfl

theorem otir : Statement (.otir) := by
  refine fun _ => ⟨show decodeUnit .ed 0xB3#8 0xCB#8 0 = .otir from ?_, show operandCount .ed 0xB3#8 = 0 from ?_⟩ <;> rfl

theorem lddr : Statement (.lddr) := by
  refine fun _ => ⟨show decodeUnit .ed 0xB8#8 0xCB#8 0 = .lddr from ?_, show operandCount .ed 0xB8#8 = 0 from ?_⟩ <;> rfl

theorem cpdr : Statement (.cpdr) := by
  refine fun _ => ⟨show decodeUnit .ed 0xB9#8 0xCB#8 0 = .cpdr from ?_, show operandCount .ed 0xB9#8 = 0 from ?_⟩ <;> rfl

theorem indr : Statement (.indr) := by
  refine fun _ => ⟨show decodeUnit .ed 0xBA#8 0xCB#8 0 = .indr from ?_, show operandCount .ed 0xBA#8 = 0 from ?_⟩ <;> rfl

theorem otdr : Statement (.otdr) := by
  refine fun _ => ⟨show decodeUnit .ed 0xBB#8 0xCB#8 0 = .otdr from ?_, show operandCount .ed 0xBB#8 = 0 from ?_⟩ <;> rfl

theorem noni (op : Byte) : Statement (.noni op) := by
  intro h
  change edInvalid op = true at h
  refine ⟨?_, ?_⟩
  · show (if edInvalid op = true then Instr.noni op else _) = _
    rw [if_pos h]
  · show (if opX op = 1 && opZ op = 3 then 2 else 0) = 0
    revert op; decide

theorem addIxRp (rp : RP) : Statement (.addIxRp rp) := by
  refine fun _ => ⟨show decodeUnit .dd (mkOpPQ 0 rp.code 1 1) 0xCB#8 0 = .addIxRp rp from ?_, show operandCount .dd (mkOpPQ 0 rp.code 1 1) = 0 from ?_⟩ <;> cases rp <;> rfl

theorem ldIxNn (nn : Word) : Statement (.ldIxNn nn) := by
  intro _
  refine ⟨?_, ?_⟩
  · show decodeUnit .dd 0x21#8 (lo8 nn) (hi8 nn) = .ldIxNn nn
    conv_rhs => rw [← mk16_hi8_lo8 nn]
    rfl
  · show operandCount .dd 0x21#8 = 2
    rfl

theorem ldAtNnIx (nn : Word) : Statement (.ldAtNnIx nn) := by
  intro _
  refine ⟨?_, ?_⟩
  · show decodeUnit .dd 0x22#8 (lo8 nn) (hi8 nn) = .ldAtNnIx nn
    conv_rhs => rw [← mk16_hi8_lo8 nn]
    rfl
  · show operandCount .dd 0x22#8 = 2
    rfl

theorem ldIxAtNn (nn : Word) : Statement (.ldIxAtNn nn) := by
  intro _
  refine ⟨?_, ?_⟩
  · show decodeUnit .dd 0x2A#8 (lo8 nn) (hi8 nn) = .ldIxAtNn nn
    conv_rhs => rw [← mk16_hi8_lo8 nn]
    rfl
  · show operandCount .dd 0x2A#8 = 2
    rfl

theorem incIx : Statement (.incIx) := by
  refine fun _ => ⟨show decodeUnit .dd 0x23#8 0xCB#8 0 = .incIx from ?_, show operandCount .dd 0x23#8 = 0 from ?_⟩ <;> rfl

theorem decIx : Statement (.decIx) := by
  refine fun _ => ⟨show decodeUnit .dd 0x2B#8 0xCB#8 0 = .decIx from ?_, show operandCount .dd 0x2B#8 = 0 from ?_⟩ <;> rfl

theorem incIxHalf (half : Half) : Statement (.incIxHalf half) := by
  refine fun _ => ⟨show decodeUnit .dd (mkOp 0 half.code 4) 0xCB#8 0 = .incIxHalf half from ?_, show operandCount .dd (mkOp 0 half.code 4) = 0 from ?_⟩ <;> cases half <;> rfl

theorem decIxHalf (half : Half) : Statement (.decIxHalf half) := by
  refine fun _ => ⟨show decodeUnit .dd (mkOp 0 half.code 5) 0xCB#8 0 = .decIxHalf half from ?_, show operandCount .dd (mkOp 0 half.code 5) = 0 from ?_⟩ <;> cases half <;> rfl

theorem ldIxHalfN (half : Half) (n : Byte) : Statement (.ldIxHalfN half n) := by
  refine fun _ => ⟨show decodeUnit .dd (mkOp 0 half.code 6) n 0 = .ldIxHalfN half n from ?_, show operandCount .dd (mkOp 0 half.code 6) = 1 from ?_⟩ <;> cases half <;> rfl

theorem incAtIx (d : Byte) : Statement (.incAtIx d) := by
  refine fun _ => ⟨show decodeUnit .dd 0x34#8 d 0 = .incAtIx d from ?_, show operandCount .dd 0x34#8 = 1 from ?_⟩ <;> rfl

theorem decAtIx (d : Byte) : Statement (.decAtIx d) := by
  refine fun _ => ⟨show decodeUnit .dd 0x35#8 d 0 = .decAtIx d from ?_, show operandCount .dd 0x35#8 = 1 from ?_⟩ <;> rfl

theorem ldAtIxN (d : Byte) (n : Byte) : Statement (.ldAtIxN d n) := by
  refine fun _ => ⟨show decodeUnit .dd 0x36#8 d n = .ldAtIxN d n from ?_, show operandCount .dd 0x36#8 = 2 from ?_⟩ <;> rfl

theorem ldRRIxHalves (r : R8) (r' : R8) : Statement (.ldRRIxHalves r r') := by
  cases r <;> cases r' <;> first | exact fun _ => ⟨rfl, rfl⟩ | exact fun h => nomatch h

theorem ldRAtIx (r : R8) (d : Byte) : Statement (.ldRAtIx r d) := by
  refine fun _ => ⟨show decodeUnit .dd (mkOp 1 r.code 6) d 0 = .ldRAtIx r d from ?_, show operandCount .dd (mkOp 1 r.code 6) = 1 from ?_⟩ <;> cases r <;> rfl

theorem ldAtIxR (d : Byte) (r : R8) : Statement (.ldAtIxR d r) := by
  refine fun _ => ⟨show decodeUnit .dd (mkOp 1 6 r.code) d 0 = .ldAtIxR d r from ?_, show operandCount .dd (mkOp 1 6 r.code) = 1 from ?_⟩ <;> cases r <;> rfl

theorem addAIxHalf (half : Half) : Statement (.addAIxHalf half) := by
  refine fun _ => ⟨show decodeUnit .dd (mkOp 2 0 half.code) 0xCB#8 0 = .addAIxHalf half from ?_, show operandCount .dd (mkOp 2 0 half.code) = 0 from ?_⟩ <;> cases half <;> rfl

theorem addAAtIx (d : Byte) : Statement (.addAAtIx d) := by
  refine fun _ => ⟨show decodeUnit .dd (mkOp 2 0 6) d 0 = .addAAtIx d from ?_, show operandCount .dd (mkOp 2 0 6) = 1 from ?_⟩ <;> rfl

theorem adcAIxHalf (half : Half) : Statement (.adcAIxHalf half) := by
  refine fun _ => ⟨show decodeUnit .dd (mkOp 2 1 half.code) 0xCB#8 0 = .adcAIxHalf half from ?_, show operandCount .dd (mkOp 2 1 half.code) = 0 from ?_⟩ <;> cases half <;> rfl

theorem adcAAtIx (d : Byte) : Statement (.adcAAtIx d) := by
  refine fun _ => ⟨show decodeUnit .dd (mkOp 2 1 6) d 0 = .adcAAtIx d from ?_, show operandCount .dd (mkOp 2 1 6) = 1 from ?_⟩ <;> rfl

theorem subIxHalf (half : Half) : Statement (.subIxHalf half) := by
  refine fun _ => ⟨show decodeUnit .dd (mkOp 2 2 half.code) 0xCB#8 0 = .subIxHalf half from ?_, show operandCount .dd (mkOp 2 2 half.code) = 0 from ?_⟩ <;> cases half <;> rfl

theorem subAtIx (d : Byte) : Statement (.subAtIx d) := by
  refine fun _ => ⟨show decodeUnit .dd (mkOp 2 2 6) d 0 = .subAtIx d from ?_, show operandCount .dd (mkOp 2 2 6) = 1 from ?_⟩ <;> rfl

theorem sbcAIxHalf (half : Half) : Statement (.sbcAIxHalf half) := by
  refine fun _ => ⟨show decodeUnit .dd (mkOp 2 3 half.code) 0xCB#8 0 = .sbcAIxHalf half from ?_, show operandCount .dd (mkOp 2 3 half.code) = 0 from ?_⟩ <;> cases half <;> rfl

theorem sbcAAtIx (d : Byte) : Statement (.sbcAAtIx d) := by
  refine fun _ => ⟨show decodeUnit .dd (mkOp 2 3 6) d 0 = .sbcAAtIx d from ?_, show operandCount .dd (mkOp 2 3 6) = 1 from ?_⟩ <;> rfl

theorem andIxHalf (half : Half) : Statement (.andIxHalf half) := by
  refine fun _ => ⟨show decodeUnit .dd (mkOp 2 4 half.code) 0xCB#8 0 = .andIxHalf half from ?_, show operandCount .dd (mkOp 2 4 half.code) = 0 from ?_⟩ <;> cases half <;> rfl

theorem andAtIx (d : Byte) : Statement (.andAtIx d) := by
  refine fun _ => ⟨show decodeUnit .dd (mkOp 2 4 6) d 0 = .andAtIx d from ?_, show operandCount .dd (mkOp 2 4 6) = 1 from ?_⟩ <;> rfl

theorem xorIxHalf (half : Half) : Statement (.xorIxHalf half) := by
  refine fun _ => ⟨show decodeUnit .dd (mkOp 2 5 half.code) 0xCB#8 0 = .xorIxHalf half from ?_, show operandCount .dd (mkOp 2 5 half.code) = 0 from ?_⟩ <;> cases half <;> rfl

theorem xorAtIx (d : Byte) : Statement (.xorAtIx d) := by
  refine fun _ => ⟨show decodeUnit .dd (mkOp 2 5 6) d 0 = .xorAtIx d from ?_, show operandCount .dd (mkOp 2 5 6) = 1 from ?_⟩ <;> rfl

theorem orIxHalf (half : Half) : Statement (.orIxHalf half) := by
  refine fun _ => ⟨show decodeUnit .dd (mkOp 2 6 half.code) 0xCB#8 0 = .orIxHalf half from ?_, show operandCount .dd (mkOp 2 6 half.code) = 0 from ?_⟩ <;> cases half <;> rfl

theorem orAtIx (d : Byte) : Statement (.orAtIx d) := by
  refine fun _ => ⟨show decodeUnit .dd (mkOp 2 6 6) d 0 = .orAtIx d from ?_, show operandCount .dd (mkOp 2 6 6) = 1 from ?_⟩ <;> rfl

theorem cpIxHalf (half : Half) : Statement (.cpIxHalf half) := by
  refine fun _ => ⟨show decodeUnit .dd (mkOp 2 7 half.code) 0xCB#8 0 = .cpIxHalf half from ?_, show operandCount .dd (mkOp 2 7 half.code) = 0 from ?_⟩ <;> cases half <;> rfl

theorem cpAtIx (d : Byte) : Statement (.cpAtIx d) := by
  refine fun _ => ⟨show decodeUnit .dd (mkOp 2 7 6) d 0 = .cpAtIx d from ?_, show operandCount .dd (mkOp 2 7 6) = 1 from ?_⟩ <;> rfl

theorem popIx : Statement (.popIx) := by
  refine fun _ => ⟨show decodeUnit .dd 0xE1#8 0xCB#8 0 = .popIx from ?_, show operandCount .dd 0xE1#8 = 0 from ?_⟩ <;> rfl

theorem exAtSpIx : Statement (.exAtSpIx) := by
  refine fun _ => ⟨show decodeUnit .dd 0xE3#8 0xCB#8 0 = .exAtSpIx from ?_, show operandCount .dd 0xE3#8 = 0 from ?_⟩ <;> rfl

theorem pushIx : Statement (.pushIx) := by
  refine fun _ => ⟨show decodeUnit .dd 0xE5#8 0xCB#8 0 = .pushIx from ?_, show operandCount .dd 0xE5#8 = 0 from ?_⟩ <;> rfl

theorem jpIx : Statement (.jpIx) := by
  refine fun _ => ⟨show decodeUnit .dd 0xE9#8 0xCB#8 0 = .jpIx from ?_, show operandCount .dd 0xE9#8 = 0 from ?_⟩ <;> rfl

theorem ldSpIx : Statement (.ldSpIx) := by
  refine fun _ => ⟨show decodeUnit .dd 0xF9#8 0xCB#8 0 = .ldSpIx from ?_, show operandCount .dd 0xF9#8 = 0 from ?_⟩ <;> rfl

theorem ddCbPrefix : Statement (.ddCbPrefix) := by
  refine fun _ => ⟨show decodeUnit .dd 0xCB#8 0xCB#8 0 = .ddCbPrefix from ?_, show operandCount .dd 0xCB#8 = 0 from ?_⟩ <;> rfl

theorem ddNoEffect (op : Byte) : Statement (.ddNoEffect op) := by
  intro h
  change xyIneffective op = true at h
  refine ⟨?_, show operandCount .none 0xDD#8 = 0 from rfl⟩
  show decodeUnit .none 0xDD#8 op 0 = .ddNoEffect op
  simp [decodeUnit, decodeBase, decodeX3, opX, opZ, opP, opQ, h]

theorem rlcAtIx (d : Byte) : Statement (.rlcAtIx d) := by
  refine fun _ => ⟨show decodeUnit .ddcb d (mkOp 0 0 6) 0 = .rlcAtIx d from ?_, show operandCount .ddcb d = 1 from ?_⟩ <;> rfl

theorem rlcAtIxR (d : Byte) (r : R8) : Statement (.rlcAtIxR d r) := by
  refine fun _ => ⟨show decodeUnit .ddcb d (mkOp 0 0 r.code) 0 = .rlcAtIxR d r from ?_, show operandCount .ddcb d = 1 from ?_⟩ <;> cases r <;> rfl

theorem rrcAtIx (d : Byte) : Statement (.rrcAtIx d) := by
  refine fun _ => ⟨show decodeUnit .ddcb d (mkOp 0 1 6) 0 = .rrcAtIx d from ?_, show operandCount .ddcb d = 1 from ?_⟩ <;> rfl

theorem rrcAtIxR (d : Byte) (r : R8) : Statement (.rrcAtIxR d r) := by
  refine fun _ => ⟨show decodeUnit .ddcb d (mkOp 0 1 r.code) 0 = .rrcAtIxR d r from ?_, show operandCount .ddcb d = 1 from ?_⟩ <;> cases r <;> rfl

theorem rlAtIx (d : Byte) : Statement (.rlAtIx d) := by
  refine fun _ => ⟨show decodeUnit .ddcb d (mkOp 0 2 6) 0 = .rlAtIx d from ?_, show operandCount .ddcb d = 1 from ?_⟩ <;> rfl

theorem rlAtIxR (d : Byte) (r : R8) : Statement (.rlAtIxR d r) := by
  refine fun _ => ⟨show decodeUnit .ddcb d (mkOp 0 2 r.code) 0 = .rlAtIxR d r from ?_, show operandCount .ddcb d = 1 from ?_⟩ <;> cases r <;> rfl

theorem rrAtIx (d : Byte) : Statement (.rrAtIx d) := by
  refine fun _ => ⟨show decodeUnit .ddcb d (mkOp 0 3 6) 0 = .rrAtIx d from ?_, show operandCount .ddcb d = 1 from ?_⟩ <;> rfl

theorem rrAtIxR (d : Byte) (r : R8) : Statement (.rrAtIxR d r) := by
  refine fun _ => ⟨show decodeUnit .ddcb d (mkOp 0 3 r.code) 0 = .rrAtIxR d r from ?_, show operandCount .ddcb d = 1 from ?_⟩ <;> cases r <;> rfl

theorem slaAtIx (d : Byte) : Statement (.slaAtIx d) := by
  refine fun _ => ⟨show decodeUnit .ddcb d (mkOp 0 4 6) 0 = .slaAtIx d from ?_, show operandCount .ddcb d = 1 from ?_⟩ <;> rfl

theorem slaAtIxR (d : Byte) (r : R8) : Statement (.slaAtIxR d r) := by
  refine fun _ => ⟨show decodeUnit .ddcb d (mkOp 0 4 r.code) 0 = .slaAtIxR d r from ?_, show operandCount .ddcb d = 1 from ?_⟩ <;> cases r <;> rfl

theorem sraAtIx (d : Byte) : Statement (.sraAtIx d) := by
  refine fun _ => ⟨show decodeUnit .ddcb d (mkOp 0 5 6) 0 = .sraAtIx d from ?_, show operandCount .ddcb d = 1 from ?_⟩ <;> rfl

theorem sraAtIxR (d : Byte) (r : R8) : Statement (.sraAtIxR d r) := by
  refine fun _ => ⟨show decodeUnit .ddcb d (mkOp 0 5 r.code) 0 = .sraAtIxR d r from ?_, show operandCount .ddcb d = 1 from ?_⟩ <;> cases r <;> rfl

theorem sllAtIx (d : Byte) : Statement (.sllAtIx d) := by
  refine fun _ => ⟨show decodeUnit .ddcb d (mkOp 0 6 6) 0 = .sllAtIx d from ?_, show operandCount .ddcb d = 1 from ?_⟩ <;> rfl

theorem sllAtIxR (d : Byte) (r : R8) : Statement (.sllAtIxR d r) := by
  refine fun _ => ⟨show decodeUnit .ddcb d (mkOp 0 6 r.code) 0 = .sllAtIxR d r from ?_, show operandCount .ddcb d = 1 from ?_⟩ <;> cases r <;> rfl

theorem srlAtIx (d : Byte) : Statement (.srlAtIx d) := by
  refine fun _ => ⟨show decodeUnit .ddcb d (mkOp 0 7 6) 0 = .srlAtIx d from ?_, show operandCount .ddcb d = 1 from ?_⟩ <;> rfl

theorem srlAtIxR (d : Byte) (r : R8) : Statement (.srlAtIxR d r) := by
  refine fun _ => ⟨show decodeUnit .ddcb d (mkOp 0 7 r.code) 0 = .srlAtIxR d r from ?_, show operandCount .ddcb d = 1 from ?_⟩ <;> cases r <;> rfl

theorem bitAtIx (b : BitVec 3) (d : Byte) (z : BitVec 3) : Statement (.bitAtIx b d z) := by
  intro _
  refine ⟨?_, rfl⟩
  show decodeUnit .ddcb d (mkOp 1 b z) 0 = .bitAtIx b d z
  simp [decodeUnit, decodeXyCb, opX_mkOp, opY_mkOp, opZ_mkOp, pick]

theorem resAtIx (b : BitVec 3) (d : Byte) : Statement (.resAtIx b d) := by
  intro _
  refine ⟨?_, rfl⟩
  show decodeUnit .ddcb d (mkOp 2 b 6) 0 = .resAtIx b d
  simp [decodeUnit, decodeXyCb, opX_mkOp, opY_mkOp, opZ_mkOp, pick]

theorem resAtIxR (b : BitVec 3) (d : Byte) (r : R8) : Statement (.resAtIxR b d r) := by
  intro _
  refine ⟨?_, rfl⟩
  show decodeUnit .ddcb d (mkOp 2 b r.code) 0 = .resAtIxR b d r
  simp only [decodeUnit, decodeXyCb, opX_mkOp, opY_mkOp, opZ_mkOp, pick]
  cases r <;> rfl

theorem setAtIx (b : BitVec 3) (d : Byte) : Statement (.setAtIx b d) := by
  intro _
  refine ⟨?_, rfl⟩
  show decodeUnit .ddcb d (mkOp 3 b 6) 0 = .setAtIx b d
  simp [decodeUnit, decodeXyCb, opX_mkOp, opY_mkOp, opZ_mkOp, pick]

theorem setAtIxR (b : BitVec 3) (d : Byte) (r : R8) : Statement (.setAtIxR b d r) := by
  intro _
  refine ⟨?_, rfl⟩
  show decodeUnit .ddcb d (mkOp 3 b r.code) 0 = .setAtIxR b d r
  simp only [decodeUnit, decodeXyCb, opX_mkOp, opY_mkOp, opZ_mkOp, pick]
  cases r <;> rfl

theorem addIyRp (rp : RP) : Statement (.addIyRp rp) := by
  refine fun _ => ⟨show decodeUnit .fd (mkOpPQ 0 rp.code 1 1) 0xCB#8 0 = .addIyRp rp from ?_, show operandCount .fd (mkOpPQ 0 rp.code 1 1) = 0 from ?_⟩ <;> cases rp <;> rfl

theorem ldIyNn (nn : Word) : Statement (.ldIyNn nn) := by
  intro _
  refine ⟨?_, ?_⟩
  · show decodeUnit .fd 0x21#8 (lo8 nn) (hi8 nn) = .ldIyNn nn
    conv_rhs => rw [← mk16_hi8_lo8 nn]
    rfl
  · show operandCount .fd 0x21#8 = 2
    rfl

theorem ldAtNnIy (nn : Word) : Statement (.ldAtNnIy nn) := by
  intro _
  refine ⟨?_, ?_⟩
  · show decodeUnit .fd 0x22#8 (lo8 nn) (hi8 nn) = .ldAtNnIy nn
    conv_rhs => rw [← mk16_hi8_lo8 nn]
    rfl
  · show operandCount .fd 0x22#8 = 2
    rfl

theorem ldIyAtNn (nn : Word) : Statement (.ldIyAtNn nn) := by
  intro _
  refine ⟨?_, ?_⟩
  · show decodeUnit .fd 0x2A#8 (lo8 nn) (hi8 nn) = .ldIyAtNn nn
    conv_rhs => rw [← mk16_hi8_lo8 nn]
    rfl
  · show operandCount .fd 0x2A#8 = 2
    rfl

theorem incIy : Statement (.incIy) := by
  refine fun _ => ⟨show decodeUnit .fd 0x23#8 0xCB#8 0 = .incIy from ?_, show operandCount .fd 0x23#8 = 0 from ?_⟩ <;> rfl

theorem decIy : Statement (.decIy) := by
  refine fun _ => ⟨show decodeUnit .fd 0x2B#8 0xCB#8 0 = .decIy from ?_, show operandCount .fd 0x2B#8 = 0 from ?_⟩ <;> rfl

theorem incIyHalf (half : Half) : Statement (.incIyHalf half) := by
  refine fun _ => ⟨show decodeUnit .fd (mkOp 0 half.code 4) 0xCB#8 0 = .incIyHalf half from ?_, show operandCount .fd (mkOp 0 half.code 4) = 0 from ?_⟩ <;> cases half <;> rfl

theorem decIyHalf (half : Half) : Statement (.decIyHalf half) := by
  refine fun _ => ⟨show decodeUnit .fd (mkOp 0 half.code 5) 0xCB#8 0 = .decIyHalf half from ?_, show operandCount .fd (mkOp 0 half.code 5) = 0 from ?_⟩ <;> cases half <;> rfl

theorem ldIyHalfN (half : Half) (n : Byte) : Statement (.ldIyHalfN half n) := by
  refine fun _ => ⟨show decodeUnit .fd (mkOp 0 half.code 6) n 0 = .ldIyHalfN half n from ?_, show operandCount .fd (mkOp 0 half.code 6) = 1 from ?_⟩ <;> cases half <;> rfl

theorem incAtIy (d : Byte) : Statement (.incAtIy d) := by
  refine fun _ => ⟨show decodeUnit .fd 0x34#8 d 0 = .incAtIy d from ?_, show operandCount .fd 0x34#8 = 1 from ?_⟩ <;> rfl

theorem decAtIy (d : Byte) : Statement (.decAtIy d) := by
  refine fun _ => ⟨show decodeUnit .fd 0x35#8 d 0 = .decAtIy d from ?_, show operandCount .fd 0x35#8 = 1 from ?_⟩ <;> rfl

theorem ldAtIyN (d : Byte) (n : Byte) : Statement (.ldAtIyN d n) := by
  refine fun _ => ⟨show decodeUnit .fd 0x36#8 d n = .ldAtIyN d n from ?_, show operandCount .fd 0x36#8 = 2 from ?_⟩ <;> rfl

theorem ldRRIyHalves (r : R8) (r' : R8) : Statement (.ldRRIyHalves r r') := by
  cases r <;> cases r' <;> first | exact fun _ => ⟨rfl, rfl⟩ | exact fun h => nomatch h

theorem ldRAtIy (r : R8) (d : Byte) : Statement (.ldRAtIy r d) := by
  refine fun _ => ⟨show decodeUnit .fd (mkOp 1 r.code 6) d 0 = .ldRAtIy r d from ?_, show operandCount .fd (mkOp 1 r.code 6) = 1 from ?_⟩ <;> cases r <;> rfl

theorem ldAtIyR (d : Byte) (r : R8) : Statement (.ldAtIyR d r) := by
  refine fun _ => ⟨show decodeUnit .fd (mkOp 1 6 r.code) d 0 = .ldAtIyR d r from ?_, show operandCount .fd (mkOp 1 6 r.code) = 1 from ?_⟩ <;> cases r <;> rfl

theorem addAIyHalf (half : Half) : Statement (.addAIyHalf half) := by
  refine fun _ => ⟨show decodeUnit .fd (mkOp 2 0 half.code) 0xCB#8 0 = .addAIyHalf half from ?_, show operandCount .fd (mkOp 2 0 half.code) = 0 from ?_⟩ <;> cases half <;> rfl

theorem addAAtIy (d : Byte) : Statement (.addAAtIy d) := by
  refine fun _ => ⟨show decodeUnit .fd (mkOp 2 0 6) d 0 = .addAAtIy d from ?_, show operandCount .fd (mkOp 2 0 6) = 1 from ?_⟩ <;> rfl

theorem adcAIyHalf (half : Half) : Statement (.adcAIyHalf half) := by
  refine fun _ => ⟨show decodeUnit .fd (mkOp 2 1 half.code) 0xCB#8 0 = .adcAIyHalf half from ?_, show operandCount .fd (mkOp 2 1 half.code) = 0 from ?_⟩ <;> cases half <;> rfl

theorem adcAAtIy (d : Byte) : Statement (.adcAAtIy d) := by
  refine fun _ => ⟨show decodeUnit .fd (mkOp 2 1 6) d 0 = .adcAAtIy d from ?_, show operandCount .fd (mkOp 2 1 6) = 1 from ?_⟩ <;> rfl

theorem subIyHalf (half : Half) : Statement (.subIyHalf half) := by
  refine fun _ => ⟨show decodeUnit .fd (mkOp 2 2 half.code) 0xCB#8 0 = .subIyHalf half from ?_, show operandCount .fd (mkOp 2 2 half.code) = 0 from ?_⟩ <;> cases half <;> rfl

theorem subAtIy (d : Byte) : Statement (.subAtIy d) := by
  refine fun _ => ⟨show decodeUnit .fd (mkOp 2 2 6) d 0 = .subAtIy d from ?_, show operandCount .fd (mkOp 2 2 6) = 1 from ?_⟩ <;> rfl

theorem sbcAIyHalf (half : Half) : Statement (.sbcAIyHalf half) := by
  refine fun _ => ⟨show decodeUnit .fd (mkOp 2 3 half.code) 0xCB#8 0 = .sbcAIyHalf half from ?_, show operandCount .fd (mkOp 2 3 half.code) = 0 from ?_⟩ <;> cases half <;> rfl

theorem sbcAAtIy (d : Byte) : Statement (.sbcAAtIy d) := by
  refine fun _ => ⟨show decodeUnit .fd (mkOp 2 3 6) d 0 = .sbcAAtIy d from ?_, show operandCount .fd (mkOp 2 3 6) = 1 from ?_⟩ <;> rfl

theorem andIyHalf (half : Half) : Statement (.andIyHalf half) := by
  refine fun _ => ⟨show decodeUnit .fd (mkOp 2 4 half.code) 0xCB#8 0 = .andIyHalf half from ?_, show operandCount .fd (mkOp 2 4 half.code) = 0 from ?_⟩ <;> cases half <;> rfl

theorem andAtIy (d : Byte) : Statement (.andAtIy d) := by
  refine fun _ => ⟨show decodeUnit .fd (mkOp 2 4 6) d 0 = .andAtIy d from ?_, show operandCount .fd (mkOp 2 4 6) = 1 from ?_⟩ <;> rfl

theorem xorIyHalf (half : Half) : Statement (.xorIyHalf half) := by
  refine fun _ => ⟨show decodeUnit .fd (mkOp 2 5 half.code) 0xCB#8 0 = .xorIyHalf half from ?_, show operandCount .fd (mkOp 2 5 half.code) = 0 from ?_⟩ <;> cases half <;> rfl

theorem xorAtIy (d : Byte) : Statement (.xorAtIy d) := by
  refine fun _ => ⟨show decodeUnit .fd (mkOp 2 5 6) d 0 = .xorAtIy d from ?_, show operandCount .fd (mkOp 2 5 6) = 1 from ?_⟩ <;> rfl

theorem orIyHalf (half : Half) : Statement (.orIyHalf half) := by
  refine fun _ => ⟨show decodeUnit .fd (mkOp 2 6 half.code) 0xCB#8 0 = .orIyHalf half from ?_, show operandCount .fd (mkOp 2 6 half.code) = 0 from ?_⟩ <;> cases half <;> rfl

theorem orAtIy (d : Byte) : Statement (.orAtIy d) := by
  refine fun _ => ⟨show decodeUnit .fd (mkOp 2 6 6) d 0 = .orAtIy d from ?_, show operandCount .fd (mkOp 2 6 6) = 1 from ?_⟩ <;> rfl

theorem cpIyHalf (half : Half) : Statement (.cpIyHalf half) := by
  refine fun _ => ⟨show decodeUnit .fd (mkOp 2 7 half.code) 0xCB#8 0 = .cpIyHalf half from ?_, show operandCount .fd (mkOp 2 7 half.code) = 0 from ?_⟩ <;> cases half <;> rfl

theorem cpAtIy (d : Byte) : Statement (.cpAtIy d) := by
  refine fun _ => ⟨show decodeUnit .fd (mkOp 2 7 6) d 0 = .cpAtIy d from ?_, show operandCount .fd (mkOp 2 7 6) = 1 from ?_⟩ <;> rfl

theorem popIy : Statement (.popIy) := by
  refine fun _ => ⟨show decodeUnit .fd 0xE1#8 0xCB#8 0 = .popIy from ?_, show operandCount .fd 0xE1#8 = 0 from ?_⟩ <;> rfl

theorem exAtSpIy : Statement (.exAtSpIy) := by
  refine fun _ => ⟨show decodeUnit .fd 0xE3#8 0xCB#8 0 = .exAtSpIy from ?_, show operandCount .fd 0xE3#8 = 0 from ?_⟩ <;> rfl

theorem pushIy : Statement (.pushIy) := by
  refine fun _ => ⟨show decodeUnit .fd 0xE5#8 0xCB#8 0 = .pushIy from ?_, show operandCount .fd 0xE5#8 = 0 from ?_⟩ <;> rfl

theorem jpIy : Statement (.jpIy) := by
  refine fun _ => ⟨show decodeUnit .fd 0xE9#8 0xCB#8 0 = .jpIy from ?_, show operandCount .fd 0xE9#8 = 0 from ?_⟩ <;> rfl

theorem ldSpIy : Statement (.ldSpIy) := by
  refine fun _ => ⟨show decodeUnit .fd 0xF9#8 0xCB#8 0 = .ldSpIy from ?_, show operandCount .fd 0xF9#8 = 0 from ?_⟩ <;> rfl

theorem fdCbPrefix : Statement (.fdCbPrefix) := by
  refine fun _ => ⟨show decodeUnit .fd 0xCB#8 0xCB#8 0 = .fdCbPrefix from ?_, show operandCount .fd 0xCB#8 = 0 from ?_⟩ <;> rfl

theorem fdNoEffect (op : Byte) : Statement (.fdNoEffect op) := by
  intro h
  change xyIneffective op = true at h
  refine ⟨?_, show operandCount .none 0xFD#8 = 0 from rfl⟩
  show decodeUnit .none 0xFD#8 op 0 = .fdNoEffect op
  simp [decodeUnit, decodeBase, decodeX3, opX, opZ, opP, opQ, h]

theorem rlcAtIy (d : Byte) : Statement (.rlcAtIy d) := by
  refine fun _ => ⟨show decodeUnit .fdcb d (mkOp 0 0 6) 0 = .rlcAtIy d from ?_, show operandCount .fdcb d = 1 from ?_⟩ <;> rfl

theorem rlcAtIyR (d : Byte) (r : R8) : Statement (.rlcAtIyR d r) := by
  refine fun _ => ⟨show decodeUnit .fdcb d (mkOp 0 0 r.code) 0 = .rlcAtIyR d r from ?_, show operandCount .fdcb d = 1 from ?_⟩ <;> cases r <;> rfl

theorem rrcAtIy (d : Byte) : Statement (.rrcAtIy d) := by
  refine fun _ => ⟨show decodeUnit .fdcb d (mkOp 0 1 6) 0 = .rrcAtIy d from ?_, show operandCount .fdcb d = 1 from ?_⟩ <;> rfl

theorem rrcAtIyR (d : Byte) (r : R8) : Statement (.rrcAtIyR d r) := by
  refine fun _ => ⟨show decodeUnit .fdcb d (mkOp 0 1 r.code) 0 = .rrcAtIyR d r from ?_, show operandCount .fdcb d = 1 from ?_⟩ <;> cases r <;> rfl

theorem rlAtIy (d : Byte) : Statement (.rlAtIy d) := by
  refine fun _ => ⟨show decodeUnit .fdcb d (mkOp 0 2 6) 0 = .rlAtIy d from ?_, show operandCount .fdcb d = 1 from ?_⟩ <;> rfl

theorem rlAtIyR (d : Byte) (r : R8) : Statement (.rlAtIyR d r) := by
  refine fun _ => ⟨show decodeUnit .fdcb d (mkOp 0 2 r.code) 0 = .rlAtIyR d r from ?_, show operandCount .fdcb d = 1 from ?_⟩ <;> cases r <;> rfl

theorem rrAtIy (d : Byte) : Statement (.rrAtIy d) := by
  refine fun _ => ⟨show decodeUnit .fdcb d (mkOp 0 3 6) 0 = .rrAtIy d from ?_, show operandCount .fdcb d = 1 from ?_⟩ <;> rfl

theorem rrAtIyR (d : Byte) (r : R8) : Statement (.rrAtIyR d r) := by
  refine fun _ => ⟨show decodeUnit .fdcb d (mkOp 0 3 r.code) 0 = .rrAtIyR d r from ?_, show operandCount .fdcb d = 1 from ?_⟩ <;> cases r <;> rfl

theorem slaAtIy (d : Byte) : Statement (.slaAtIy d) := by
  refine fun _ => ⟨show decodeUnit .fdcb d (mkOp 0 4 6) 0 = .slaAtIy d from ?_, show operandCount .fdcb d = 1 from ?_⟩ <;> rfl

theorem slaAtIyR (d : Byte) (r : R8) : Statement (.slaAtIyR d r) := by
  refine fun _ => ⟨show decodeUnit .fdcb d (mkOp 0 4 r.code) 0 = .slaAtIyR d r from ?_, show operandCount .fdcb d = 1 from ?_⟩ <;> cases r <;> rfl

theorem sraAtIy (d : Byte) : Statement (.sraAtIy d) := by
  refine fun _ => ⟨show decodeUnit .fdcb d (mkOp 0 5 6) 0 = .sraAtIy d from ?_, show operandCount .fdcb d = 1 from ?_⟩ <;> rfl

theorem sraAtIyR (d : Byte) (r : R8) : Statement (.sraAtIyR d r) := by
  refine fun _ => ⟨show decodeUnit .fdcb d (mkOp 0 5 r.code) 0 = .sraAtIyR d r from ?_, show operandCount .fdcb d = 1 from ?_⟩ <;> cases r <;> rfl

theorem sllAtIy (d : Byte) : Statement (.sllAtIy d) := by
  refine fun _ => ⟨show decodeUnit .fdcb d (mkOp 0 6 6) 0 = .sllAtIy d from ?_, show operandCount .fdcb d = 1 from ?_⟩ <;> rfl

theorem sllAtIyR (d : Byte) (r : R8) : Statement (.sllAtIyR d r) := by
  refine fun _ => ⟨show decodeUnit .fdcb d (mkOp 0 6 r.code) 0 = .sllAtIyR d r from ?_, show operandCount .fdcb d = 1 from ?_⟩ <;> cases r <;> rfl

theorem srlAtIy (d : Byte) : Statement (.srlAtIy d) := by
  refine fun _ => ⟨show decodeUnit .fdcb d (mkOp 0 7 6) 0 = .srlAtIy d from ?_, show operandCount .fdcb d = 1 from ?_⟩ <;> rfl

theorem srlAtIyR (d : Byte) (r : R8) : Statement (.srlAtIyR d r) := by
  refine fun _ => ⟨show decodeUnit .fdcb d (mkOp 0 7 r.code) 0 = .srlAtIyR d r from ?_, show operandCount .fdcb d = 1 from ?_⟩ <;> cases r <;> rfl

theorem bitAtIy (b : BitVec 3) (d : Byte) (z : BitVec 3) : Statement (.bitAtIy b d z) := by
  intro _
  refine ⟨?_, rfl⟩
  show decodeUnit .fdcb d (mkOp 1 b z) 0 = .bitAtIy b d z
  simp [decodeUnit, decodeXyCb, opX_mkOp, opY_mkOp, opZ_mkOp, pick]

theorem resAtIy (b : BitVec 3) (d : Byte) : Statement (.resAtIy b d) := by
  intro _
  refine ⟨?_, rfl⟩
  show decodeUnit .fdcb d (mkOp 2 b 6) 0 = .resAtIy b d
  simp [decodeUnit, decodeXyCb, opX_mkOp, opY_mkOp, opZ_mkOp, pick]

theorem resAtIyR (b : BitVec 3) (d : Byte) (r : R8) : Statement (.resAtIyR b d r) := by
  intro _
  refine ⟨?_, rfl⟩
  show decodeUnit .fdcb d (mkOp 2 b r.code) 0 = .resAtIyR b d r
  simp only [decodeUnit, decodeXyCb, opX_mkOp, opY_mkOp, opZ_mkOp, pick]
  cases r <;> rfl

theorem setAtIy (b : BitVec 3) (d : Byte) : Statement (.setAtIy b d) := by
  intro _
  refine ⟨?_, rfl⟩
  show decodeUnit .fdcb d (mkOp 3 b 6) 0 = .setAtIy b d
  simp [decodeUnit, decodeXyCb, opX_mkOp, opY_mkOp, opZ_mkOp, pick]

theorem setAtIyR (b : BitVec 3) (d : Byte) (r : R8) : Statement (.setAtIyR b d r) := by
  intro _
  refine ⟨?_, rfl⟩
  show decodeUnit .fdcb d (mkOp 3 b r.code) 0 = .setAtIyR b d r
  simp only [decodeUnit, decodeXyCb, opX_mkOp, opY_mkOp, opZ_mkOp, pick]
  cases r <;> rfl

end Sys2Proof.Laws.Unit
end

