-- ==== Sys2Proof/Tests/Slice0.lean ====
section
/-! SUPPORT. The model's own tests: ill-formed instructions refused, words written out from the spec's encodings, one
step per worked example of the spec's rules, and a witness for the hypotheses of each statement of
Certificates/Slice0/Obligations.lean. Every expected value is the spec's, from the example of the rule named. -/

namespace Sys2Proof.Machine

set_option maxRecDepth 8000

/-! ### Helpers -/

/-- The bytes of a unit at 0x0100, under a prefix latch, on registers. -/
def ready (regs : Regs) (l : Latch) (bytes : List Byte) : State :=
  { State.reset with
    mem := Memory.writeBytes [] 0x0100#16 bytes
    regs := { regs with pc := if awaitsXyCb l then 0x0101#16 else 0x0100#16 }
    latch := l
    seq := if awaitsXyCb l then { Seq.zero with step := 1, nextCycle := .read, nextAddr := 0x0100#16 } else Seq.zero }

/-- More bytes of memory. -/
def State.poke (s : State) (a : Word) (bytes : List Byte) : State := { s with mem := s.mem.writeBytes a bytes }

/-- The half-carry of the part. -/
def State.asPart (s : State) : State := { s with cfg := { s.cfg with hMode := .part } }

/-- An answer at a port. -/
def State.answering (s : State) (port : Word) (v : Byte) : State := { s with ioIn := s.ioIn.setAnswer port v }

/-- The state after one step. -/
def stepped (s : State) : State :=
  match step s with
  | .next t => t
  | .fault _ | .refused _ => s

/-- The registers all zero. -/
abbrev z : Regs := Regs.zero

/-! ### Ill-formed instructions (spec/30_encoding.md R311, R312, R320, R321) -/

theorem smoke_retn_is_not_reti : wellFormed (.retn 1) = false := by decide
theorem smoke_noni_is_not_neg : wellFormed (.noni 0x44) = false := by decide
theorem smoke_noni_is_not_ldi : wellFormed (.noni 0xA0) = false := by decide
theorem smoke_dd_no_effect_is_not_ld_ix : wellFormed (.ddNoEffect 0x21) = false := by decide
theorem smoke_fd_no_effect_is_not_ld_iy : wellFormed (.fdNoEffect 0x21) = false := by decide
theorem smoke_ld_ix_halves_without_a_half : wellFormed (.ldRRIxHalves .b .c) = false := by decide
theorem smoke_ld_iy_halves_without_a_half : wellFormed (.ldRRIyHalves .b .c) = false := by decide
theorem smoke_well_formed_ones : wellFormed (.retn 2) = true ∧ wellFormed (.noni 0xED) = true ∧ wellFormed (.ddNoEffect 0x00) = true
    ∧ wellFormed (.ldRRIxHalves .h .c) = true := by decide

/-- The ranges of R312. -/
theorem ed_invalid_ranges : ∀ op : Byte, edInvalid op =
    (op ≤ 0x3F || (0x80 ≤ op && op ≤ 0x9F) || (0xA4 ≤ op && op ≤ 0xA7) || (0xAC ≤ op && op ≤ 0xAF)
      || (0xB4 ≤ op && op ≤ 0xB7) || (0xBC ≤ op && op ≤ 0xBF) || 0xC0 ≤ op) := by decide

/-- The 85 bytes of R320, the 170 of R786, and the bytes in the ranges of R312 (log 31). -/
theorem prefixed_byte_counts :
    let count (p : Byte → Bool) : Nat := ((List.range 256).filter fun n => p (BitVec.ofNat 8 n)).length
    count xyAffected = 85 ∧ count xyIneffective = 170 ∧ count edInvalid = 176 := by decide

/-! ### Words written out from the encodings of the rules -/

theorem decodes_ld_r_n : decodeTableWord 16 0b11111110_00_001_110 = some (.ldRN .c 0xFE) := by decide
theorem decodes_ld_rp_at_nn_ed : decodeTableWord 32 0b00110000_00000000_01_11_1011_11101101 = some (.ldRpAtNn .sp 0x3000) := by decide
theorem decodes_ld_at_ix_n : decodeTableWord 32 0b01010101_11111111_00110110_11011101 = some (.ldAtIxN 0xFF 0x55) := by decide
theorem decodes_ld_ixh_b : decodeTableWord 16 0b01100000_11011101 = some (.ldRRIxHalves .h .b) := by decide
theorem decodes_sbc_a_at_iy : decodeTableWord 24 0b10000000_10_011_110_11111101 = some (.sbcAAtIy 0x80) := by decide
theorem decodes_xor_ixl : decodeTableWord 16 0b10_101_101_11011101 = some (.xorIxHalf .lo) := by decide
theorem decodes_cp_n : decodeTableWord 16 0b01000000_11_111_110 = some (.cpN 0x40) := by decide
theorem decodes_daa : decodeTableWord 8 0b00100111 = some (.daa) := by decide
theorem decodes_neg_mirror : decodeTableWord 16 0b01_011_100_11101101 = some (.neg 3) := by decide
theorem decodes_adc_hl_de : decodeTableWord 16 0b01_01_1010_11101101 = some (.adcHlRp .de) := by decide
theorem decodes_add_ix_ix : decodeTableWord 16 0b00_10_1001_11011101 = some (.addIxRp .hl) := by decide
theorem decodes_dec_sp : decodeTableWord 8 0b00_11_1011 = some (.decRp .sp) := by decide
theorem decodes_push_af : decodeTableWord 8 0b11_11_0101 = some (.pushRp2 .af) := by decide
theorem decodes_pop_iy : decodeTableWord 16 0b11100001_11111101 = some (.popIy) := by decide
theorem decodes_call_po : decodeTableWord 24 0b00010010_00110100_11_100_100 = some (.callCcNn .po 0x1234) := by decide
theorem decodes_jp_at_hl : decodeTableWord 8 0b11101001 = some (.jpHl) := by decide
theorem decodes_rst_38 : decodeTableWord 8 0b11_111_111 = some (.rst 7) := by decide
theorem decodes_ret_m : decodeTableWord 8 0b11_111_000 = some (.retCc .m) := by decide
theorem decodes_rla : decodeTableWord 8 0b00010111 = some (.rla) := by decide
theorem decodes_sll_a : decodeTableWord 16 0b00_110_111_11001011 = some (.sllR .a) := by decide
theorem decodes_rr_at_hl : decodeTableWord 16 0b00_011_110_11001011 = some (.rrAtHl) := by decide
theorem decodes_rlc_ix_copy : decodeTableWord 32 0b00_000_000_11111111_11001011_11011101 = some (.rlcAtIxR 0xFF .b) := by decide
theorem decodes_res_iy : decodeTableWord 32 0b10_100_110_00000010_11001011_11111101 = some (.resAtIy 4 2) := by decide
theorem decodes_bit_iy : decodeTableWord 32 0b01_001_000_00000010_11001011_11111101 = some (.bitAtIy 1 2 0) := by decide
theorem decodes_ex_sp_ix : decodeTableWord 16 0b11100011_11011101 = some (.exAtSpIx) := by decide
theorem decodes_cpdr : decodeTableWord 16 0b10111001_11101101 = some (.cpdr) := by decide
theorem decodes_exx : decodeTableWord 8 0b11011001 = some (.exx) := by decide
theorem decodes_out_n_a : decodeTableWord 16 0b00100000_11010011 = some (.outAtNA 0x20) := by decide
theorem decodes_in_flags : decodeTableWord 16 0b01_110_000_11101101 = some (.inFlagsC) := by decide
theorem decodes_otdr : decodeTableWord 16 0b10111011_11101101 = some (.otdr) := by decide
theorem decodes_im_2 : decodeTableWord 16 0b01_011_110_11101101 = some (.im 3) := by decide
theorem decodes_noni : decodeTableWord 16 0b11101101_11101101 = some (.noni 0xED) := by decide
theorem decodes_nop_ed : decodeTableWord 16 0b01_110_111_11101101 = some (.nopEd 0) := by decide
theorem decodes_ei : decodeTableWord 8 0b11111011 = some (.ei) := by decide

/-! ### A placed word is the next unit, and runs -/

theorem placed_plain : nextInstr (State.reset.withFetchWord 24 0x123401) = .ldRpNn .bc 0x1234 := by decide

theorem placed_xycb : nextInstr (State.reset.withFetchWord 32 0xC705CBDD) = .setAtIxR 0 5 .a := by decide

theorem placed_lone_byte : nextInstr (State.reset.withFetchWord 8 0xDD) = .ddPrefix := by decide

theorem placed_runs : (stepped (State.reset.withFetchWord 24 0x123401)).bc = 0x1234 := by decide

/-! ### Source lines (spec/30_encoding.md R320, R326, R327; spec/95_test_vectors.md) -/

theorem source_destination_first : sourceTexts 0x0100 (.ldRR .a .b) = ["LD A,B"] := by decide

theorem source_indexed : sourceTexts 0x0100 (.ldAtIyR 0xFB .a) = ["LD (IY-5),A"] := by decide

theorem source_names_the_target : sourceTexts 0x0100 (.jr 0xFE) = ["JR 0x0100"] := by decide

theorem source_halves : sourceTexts 0x0100 (.ldRRIxHalves .b .h) = ["LD B,IXH", "LD B,HX", "LD B,XH"] := by decide

theorem source_sub_takes_the_operand_only : sourceTexts 0x0100 (.subR .b) = ["SUB B", "SUB A,B"]
    ∧ sourceTexts 0x0100 (.adcAR .b) = ["ADC A,B"] := by decide

theorem source_jp_hl : sourceTexts 0x0100 .jpHl = ["JP (HL)", "JP HL"] := by decide

theorem source_ports : sourceTexts 0x0100 .inFlagsC = ["IN (C)", "IN F,(C)"] ∧ sourceTexts 0x0100 .outC0 = ["OUT (C),0"] := by
  decide

theorem source_reach : reaches 0x0082 0x0100 = true ∧ reaches 0x0081 0x0100 = false ∧ reaches 0x0181 0x0100 = true
    ∧ reaches 0x0182 0x0100 = false := by decide

/-! ### One step on a worked example of the rule -/

/-- R518, R416 -/
theorem test_ld_bc_nn : (fun t : State => (t.bc, t.regs.pc, t.regs.r, t.regs.f))
    (stepped (ready z .none [0x01, 0x34, 0x12])) = (0x1234, 0x0103, 0x01, 0x00) := by decide

/-- R521 -/
theorem test_ld_nn_hl_wraps : (fun t : State => (t.mem.read 0xFFFF, t.mem.read 0x0000, t.regs.sp))
    (stepped (ready { z with h := 0x12, l := 0x34 } .none [0x22, 0xFF, 0xFF])) = (0x34, 0x12, 0x0000) := by decide

/-- R519 -/
theorem test_ld_hl_nn : (fun t : State => (t.hl))
    (stepped (ready z .none [0x2A, 0x00, 0x30]|>.poke 0x3000 [0x34, 0x12])) = (0x1234) := by decide

/-- R514 -/
theorem test_ld_a_i : (fun t : State => (t.regs.a, t.regs.f))
    (stepped (ready { z with i := 0x80, f := 0x01 } .ed [0x57])) = (0x80, 0x81) := by decide

/-- R517 -/
theorem test_ld_r_a : (fun t : State => (t.regs.r))
    (stepped (ready { z with a := 0x85 } .ed [0x4F])) = (0x85) := by decide

/-- R523 -/
theorem test_ld_sp_ix : (fun t : State => (t.regs.sp, t.latch))
    (stepped (ready { z with ix := 0x4000 } .dd [0xF9])) = (0x4000, Latch.none) := by decide

/-- R551 -/
theorem test_add_source : (fun t : State => (t.regs.a, t.regs.f))
    (stepped (ready { z with a := 0x3A, b := 0xC6 } .none [0x80])) = (0x00, 0x41) := by decide

/-- R551 -/
theorem test_add_part : (fun t : State => (t.regs.a, t.regs.f))
    (stepped ((ready { z with a := 0x7F, c := 0x01 } .none [0x81]).asPart)) = (0x80, 0x94) := by decide

/-- R552 -/
theorem test_adc : (fun t : State => (t.regs.a, t.regs.f))
    (stepped (ready { z with a := 0xFF, f := 0x01 } .none [0x88])) = (0x00, 0x41) := by decide

/-- R553 -/
theorem test_sub_at_hl : (fun t : State => (t.regs.a, t.regs.f))
    (stepped ((ready { z with a := 0x10, h := 0x70 } .none [0x96]).asPart|>.poke 0x7000 [0x01])) = (0x0F, 0x1A) := by decide

/-- R554 -/
theorem test_sbc : (fun t : State => (t.regs.a, t.regs.f))
    (stepped (ready { z with a := 0x00, f := 0x01 } .none [0x98])) = (0xFF, 0xAB) := by decide

/-- R555 -/
theorem test_and : (fun t : State => (t.regs.a, t.regs.f))
    (stepped (ready { z with a := 0xF0, b := 0x3C } .none [0xA0])) = (0x30, 0x34) := by decide

/-- R556 -/
theorem test_xor_a : (fun t : State => (t.regs.a, t.regs.f))
    (stepped (ready { z with a := 0x5A } .none [0xAF])) = (0x00, 0x44) := by decide

/-- R557 -/
theorem test_or_n : (fun t : State => (t.regs.a, t.regs.f))
    (stepped (ready z .none [0xF6, 0x81])) = (0x81, 0x84) := by decide

/-- R558 -/
theorem test_cp_at_ix : (fun t : State => (t.regs.a, t.regs.f))
    (stepped ((ready { z with a := 0x05, ix := 0x1000 } .dd [0xBE, 0x02]).asPart|>.poke 0x1002 [0x06])) = (0x05, 0xBB) := by decide

/-- R559 -/
theorem test_inc_r : (fun t : State => (t.regs.a, t.regs.f))
    (stepped (ready { z with a := 0x7F } .none [0x3C])) = (0x80, 0x84) := by decide

/-- R560 -/
theorem test_inc_at_hl : (fun t : State => (t.mem.read 0x7000, t.regs.f))
    (stepped ((ready { z with h := 0x70 } .none [0x34]).asPart|>.poke 0x7000 [0xFF])) = (0x00, 0x50) := by decide

/-- R562 -/
theorem test_dec_r : (fun t : State => (t.regs.b, t.regs.f))
    (stepped (ready { z with b := 0x80 } .none [0x05])) = (0x7F, 0x2E) := by decide

/-- R564 -/
theorem test_dec_at_iy : (fun t : State => (t.mem.read 0x1000, t.regs.f))
    (stepped (ready { z with iy := 0x1001 } .fd [0x35, 0xFF]|>.poke 0x1000 [0x01])) = (0x00, 0x42) := by decide

/-- R565 -/
theorem test_daa : (fun t : State => (t.regs.a, t.regs.f))
    (stepped (ready { z with a := 0x9A } .none [0x27])) = (0x00, 0x55) := by decide

/-- R566 -/
theorem test_cpl : (fun t : State => (t.regs.a, t.regs.f))
    (stepped (ready { z with a := 0x5A } .none [0x2F])) = (0xA5, 0x32) := by decide

/-- R567 -/
theorem test_neg : (fun t : State => (t.regs.a, t.regs.f))
    (stepped (ready { z with a := 0x80 } .ed [0x44])) = (0x80, 0x87) := by decide

/-- R568 -/
theorem test_ccf : (fun t : State => (t.regs.a, t.regs.f))
    (stepped (ready { z with a := 0x28, f := 0x01 } .none [0x3F])) = (0x28, 0x38) := by decide

/-- R569 -/
theorem test_scf : (fun t : State => (t.regs.a, t.regs.f))
    (stepped (ready { z with a := 0x28 } .none [0x37])) = (0x28, 0x29) := by decide

/-- R600 -/
theorem test_add_hl : (fun t : State => (t.hl, t.regs.f))
    (stepped (ready { z with h := 0x0F, l := 0xFF, c := 0x01 } .none [0x09])) = (0x1000, 0x10) := by decide

/-- R601 -/
theorem test_adc_hl : (fun t : State => (t.hl, t.regs.f))
    (stepped (ready { z with h := 0x7F, l := 0xFF, f := 0x01 } .ed [0x4A])) = (0x8000, 0x94) := by decide

/-- R602 -/
theorem test_sbc_hl : (fun t : State => (t.hl, t.regs.f))
    (stepped (ready { z with h := 0x80, e := 0x01 } .ed [0x52])) = (0x7FFF, 0x3E) := by decide

/-- R603 -/
theorem test_add_iy : (fun t : State => (t.regs.iy, t.regs.f))
    (stepped (ready { z with iy := 0x1000, d := 0x20 } .fd [0x19])) = (0x3000, 0x20) := by decide

/-- R604 -/
theorem test_inc_bc_wraps : (fun t : State => (t.bc, t.regs.f))
    (stepped (ready { z with b := 0xFF, c := 0xFF, f := 0xFF } .none [0x03])) = (0x0000, 0xFF) := by decide

/-- R620 -/
theorem test_push_wraps : (fun t : State => (t.mem.read 0xFFFF, t.mem.read 0x0000, t.regs.sp))
    (stepped (ready { z with b := 0x12, c := 0x34, sp := 0x0001 } .none [0xC5])) = (0x34, 0x12, 0xFFFF) := by decide

/-- R621 -/
theorem test_pop_af : (fun t : State => (t.regs.a, t.regs.f, t.regs.sp))
    (stepped (ready z .none [0xF1]|>.poke 0x0000 [0xD7, 0x99])) = (0x99, 0xD7, 0x0002) := by decide

/-- R623 -/
theorem test_jp_m : (fun t : State => (t.regs.pc))
    (stepped (ready { z with f := 0x80 } .none [0xFA, 0x00, 0x20])) = (0x2000) := by decide

/-- R624 -/
theorem test_jr_back : (fun t : State => (t.regs.pc))
    (stepped (ready z .none [0x18, 0x80])) = (0x0082) := by decide

/-- R625 -/
theorem test_jr_nc_not_taken : (fun t : State => (t.regs.pc))
    (stepped (ready { z with f := 0x01 } .none [0x30, 0x02])) = (0x0102) := by decide

/-- R627 -/
theorem test_djnz_last : (fun t : State => (t.regs.b, t.regs.pc))
    (stepped (ready { z with b := 0x01 } .none [0x10, 0xFE])) = (0x00, 0x0102) := by decide

/-- R628 -/
theorem test_call : (fun t : State => (t.regs.pc, t.regs.sp, t.mem.read 0x7FFE, t.mem.read 0x7FFF))
    (stepped (ready { z with sp := 0x8000 } .none [0xCD, 0x00, 0x20])) = (0x2000, 0x7FFE, 0x03, 0x01) := by decide

/-- R629 -/
theorem test_call_nz_not_taken : (fun t : State => (t.regs.pc, t.regs.sp))
    (stepped (ready { z with sp := 0x8000, f := 0x40 } .none [0xC4, 0x00, 0x20])) = (0x0103, 0x8000) := by decide

/-- R633 -/
theorem test_retn_wraps : (fun t : State => (t.regs.pc, t.regs.sp))
    (stepped (ready { z with sp := 0xFFFF } .ed [0x45]|>.poke 0xFFFF [0x03, 0x01])) = (0x0103, 0x0001) := by decide

/-- R672 -/
theorem test_rla : (fun t : State => (t.regs.a, t.regs.f))
    (stepped (ready { z with a := 0x80, f := 0xC4 } .none [0x17])) = (0x00, 0xC5) := by decide

/-- R678 -/
theorem test_rr_e : (fun t : State => (t.regs.e, t.regs.f))
    (stepped (ready { z with e := 0x01, f := 0x01 } .cb [0x1B])) = (0x80, 0x81) := by decide

/-- R680 -/
theorem test_sra_l : (fun t : State => (t.regs.l, t.regs.f))
    (stepped (ready { z with l := 0x81 } .cb [0x2D])) = (0xC0, 0x85) := by decide

/-- R681 -/
theorem test_sll_a : (fun t : State => (t.regs.a, t.regs.f))
    (stepped (ready { z with a := 0x80 } .cb [0x37])) = (0x01, 0x01) := by decide

/-- R675 -/
theorem test_rlc_ix_copied : (fun t : State => (t.mem.read 0x7000, t.regs.b, t.regs.f, t.regs.r))
    (stepped (ready { z with ix := 0x7001 } .ddcb [0xFF, 0x00]|>.poke 0x7000 [0x81])) = (0x03, 0x03, 0x05, 0x00) := by decide

/-- R683 -/
theorem test_bit_7 : (fun t : State => (t.regs.a, t.regs.f))
    (stepped (ready { z with a := 0x80 } .cb [0x7F])) = (0x80, 0x90) := by decide

/-- R683 -/
theorem test_bit_at_iy : (fun t : State => (t.regs.f, t.mem.read 0x7002))
    (stepped (ready { z with iy := 0x7000 } .fdcb [0x02, 0x4E]|>.poke 0x7002 [0x02])) = (0x10, 0x02) := by decide

/-- R684 -/
theorem test_res_ix : (fun t : State => (t.mem.read 0x7000))
    (stepped (ready { z with ix := 0x7000 } .ddcb [0x00, 0xBE]|>.poke 0x7000 [0xFF])) = (0x7F) := by decide

/-- R685 -/
theorem test_set_copied : (fun t : State => (t.mem.read 0x7000, t.regs.a))
    (stepped (ready { z with ix := 0x7000 } .ddcb [0x00, 0xC7])) = (0x01, 0x01) := by decide

/-- R686 -/
theorem test_rld : (fun t : State => (t.mem.read 0x7000, t.regs.a, t.regs.f))
    (stepped (ready { z with a := 0x12, h := 0x70 } .ed [0x6F]|>.poke 0x7000 [0x34])) = (0x42, 0x13, 0x00) := by decide

/-- R687 -/
theorem test_rrd : (fun t : State => (t.mem.read 0x7000, t.regs.a, t.regs.f))
    (stepped (ready { z with a := 0x12, h := 0x70 } .ed [0x67]|>.poke 0x7000 [0x34])) = (0x23, 0x14, 0x04) := by decide

/-- R721 -/
theorem test_ex_af : (fun t : State => (t.af, t.regs.afShadow))
    (stepped (ready { z with a := 0x12, f := 0x34, afShadow := 0x5678 } .none [0x08])) = (0x5678, 0x1234) := by decide

/-- R722 -/
theorem test_exx : (fun t : State => (t.bc, t.regs.bcShadow, t.hl))
    (stepped (ready { z with b := 0x11, c := 0x11, bcShadow := 0x4444, hlShadow := 0x6666 } .none [0xD9])) = (0x4444, 0x1111, 0x6666) := by decide

/-- R723 -/
theorem test_ex_sp_hl : (fun t : State => (t.hl, t.mem.read 0x8000, t.mem.read 0x8001))
    (stepped (ready { z with h := 0x12, l := 0x34, sp := 0x8000 } .none [0xE3]|>.poke 0x8000 [0x78, 0x56])) = (0x5678, 0x34, 0x12) := by decide

/-- R724 -/
theorem test_ldi : (fun t : State => (t.mem.read 0x8000, t.hl, t.de, t.bc, t.regs.f))
    (stepped (ready { z with h := 0x70, d := 0x80, c := 0x02 } .ed [0xA0]|>.poke 0x7000 [0x0A])) = (0x0A, 0x7001, 0x8001, 0x0001, 0x2C) := by decide

/-- R728 -/
theorem test_cpi_part : (fun t : State => (t.hl, t.bc, t.regs.f))
    (stepped ((ready { z with h := 0x70, a := 0x10, c := 0x01 } .ed [0xA1]).asPart|>.poke 0x7000 [0x01])) = (0x7001, 0x0000, 0x3A) := by decide

/-- R750 -/
theorem test_in_a_n : (fun t : State => (t.regs.a, t.regs.f))
    (stepped ((ready { z with a := 0x12 } .none [0xDB, 0x20]).answering 0x1220 0x5A)) = (0x5A, 0x00) := by decide

/-- R751 -/
theorem test_in_b : (fun t : State => (t.regs.b, t.regs.f))
    (stepped ((ready { z with b := 0x12, c := 0x34 } .ed [0x40]).answering 0x1234 0x80)) = (0x80, 0x80) := by decide

/-- R753 -/
theorem test_out_n_a : (fun t : State => (t.bus.head?))
    (stepped (ready { z with a := 0x12 } .none [0xD3, 0x20])) = (some ⟨.ioWrite, 0x1220, 0x12, 4⟩) := by decide

/-- R756 -/
theorem test_ini : (fun t : State => (t.mem.read 0x7000, t.regs.b, t.hl, t.regs.f))
    (stepped ((ready { z with b := 0x02, c := 0x10, h := 0x70 } .ed [0xA2]).answering 0x0210 0x80)) = (0x80, 0x01, 0x7001, 0x06) := by decide

/-- R762 -/
theorem test_outd : (fun t : State => (t.regs.b, t.hl, t.regs.f))
    (stepped (ready { z with b := 0x01, c := 0x10, h := 0x70 } .ed [0xAB]|>.poke 0x7000 [0x01])) = (0x00, 0x6FFF, 0x55) := by decide

/-- spec/20_memory.md R200: `BUS` answers 0x55 where the byte last written is 0x01 -/
theorem test_read_not_last_written : (fun t : State => (t.regs.a, t.mem.read 0x7000, t.memTape))
    (stepped ({ ready { z with h := 0x70 } .none [0x7E]|>.poke 0x7000 [0x01] with memTape := [0x7E, 0x55] })) = (0x55, 0x01, []) := by decide

/-- spec/20_memory.md R200: the opcode and its operand come from `BUS` -/
theorem test_fetch_answered : (fun t : State => (t.regs.a, t.regs.pc, t.memTape))
    (stepped ({ ready z .none [0x00, 0x00] with memTape := [0x3E, 0x55, 0x66] })) = (0x55, 0x0102, [0x66]) := by decide

/-- R780 -/
theorem test_nop : (fun t : State => (t.regs.pc, t.regs.r))
    (stepped (ready z .none [0x00])) = (0x0101, 0x01) := by decide

/-- R781 -/
theorem test_halt : (fun t : State => (t.halted, t.regs.pc, t.regs.r))
    (stepped (ready z .none [0x76])) = (true, 0x0101, 0x01) := by decide

/-- R783 -/
theorem test_ei_fault : (fun t : State => (t.halted, t.unimplOp, t.regs.pc))
    (stepped ({ ready z .none [0xFB] with cfg := { Config.default with unimplPolicy := .fault } })) = (true, 0x00FB, 0x0101) := by decide

/-- R784 -/
theorem test_im_recorded : (fun t : State => (t.unimplSeen, t.unimplOp, t.halted))
    (stepped (ready z .ed [0x46])) = (true, 0xED46, false) := by decide

/-- R785 -/
theorem test_dd_prefix : (fun t : State => (t.latch, t.regs.pc, t.regs.r))
    (stepped (ready z .none [0xDD, 0x21])) = (Latch.dd, 0x0101, 0x01) := by decide

/-- R853: two rising edges are too few. -/
theorem test_short_reset : (setReset false (ticks [.rising, .falling, .rising] (setReset true State.reset))).active = false := by
  decide

/-- R853: three are enough. -/
theorem test_valid_reset :
    (setReset false (ticks [.rising, .rising, .rising] (setReset true State.reset))).active = true := by decide

/-! ### Witnesses: states that meet the hypotheses of each statement -/

/-- A unit after a DDCB prefix. -/
abbrev xycbState : State := ready z .ddcb [0x05, 0xC7]

theorem witness_StepRunsDecodedUnit_plain :
    State.reset.dormant = false ∧ State.reset.atBoundary = true ∧ awaitsXyCb State.reset.latch = false
      ∧ decodeUnit State.reset.latch (upcoming 0 State.reset.regs.pc State.reset)
          (upcoming 1 (State.reset.regs.pc + 1) State.reset) (upcoming 2 (State.reset.regs.pc + 2) State.reset) = .nop := by
  decide

theorem witness_StepRunsDecodedUnit_xycb :
    xycbState.dormant = false ∧ xycbState.atBoundary = true ∧ awaitsXyCb xycbState.latch = true
      ∧ decodeUnit xycbState.latch (upcoming 0 xycbState.seq.nextAddr xycbState)
          (upcoming 1 xycbState.regs.pc xycbState) 0 = .setAtIxR 0 5 .a := by decide

theorem witness_EncodedInstructionRuns_plain :
    let s := ready z .none [0x01, 0x34, 0x12]
    let i : Instr := .ldRpNn .bc 0x1234
    WellFormed i ∧ s.dormant = false ∧ s.atBoundary = true ∧ s.latch = latchOf i ∧ awaitsXyCb s.latch = false
      ∧ ∀ k < (encodeUnit i ++ lookahead i).length,
        upcoming k (s.regs.pc + BitVec.ofNat 16 k) s = (encodeUnit i ++ lookahead i).getD k 0 := by decide

theorem witness_EncodedInstructionRuns_prefix_byte :
    let s := ready z .none [0xDD, 0x21]
    WellFormed .ddPrefix ∧ s.latch = latchOf .ddPrefix ∧ upcoming 0 s.regs.pc s = 0xDD
      ∧ xyIneffective (upcoming 1 (s.regs.pc + 1) s) = false := by decide

theorem witness_EncodedInstructionRuns_xycb :
    let i : Instr := .setAtIxR 0 5 .a
    WellFormed i ∧ xycbState.dormant = false ∧ xycbState.atBoundary = true ∧ xycbState.latch = latchOf i
      ∧ awaitsXyCb xycbState.latch = true
      ∧ encodeUnit i = [upcoming 0 xycbState.seq.nextAddr xycbState, upcoming 1 xycbState.regs.pc xycbState] := by decide

theorem witness_FetchAdvances_none :
    awaitsXyCb State.reset.latch = false ∧ operandCount State.reset.latch (upcoming 0 State.reset.regs.pc State.reset) = 0 := by
  decide

theorem witness_FetchAdvances_one :
    let s := ready z .none [0x06, 0x55]
    awaitsXyCb s.latch = false ∧ operandCount s.latch (upcoming 0 s.regs.pc s) = 1 := by decide

theorem witness_FetchAdvances_two :
    let s := ready z .none [0x01, 0x34, 0x12]
    awaitsXyCb s.latch = false ∧ operandCount s.latch (upcoming 0 s.regs.pc s) = 2 := by decide

theorem witness_FetchAdvances_xycb : awaitsXyCb xycbState.latch = true := by decide

theorem witness_UnitsEndAtBoundary : State.reset.dormant = false ∧ State.reset.atBoundary = true := by decide

theorem witness_EdgesRefineStep :
    xycbState.dormant = false ∧ xycbState.resetLow = false ∧ xycbState.atBoundary = true := by decide

theorem witness_DecodeOfEncode :
    (WellFormed (.bitAtIx 7 0x80 6) ∧ prefixLatch (.bitAtIx 7 0x80 6) = none)
      ∧ (WellFormed .fdPrefix ∧ prefixLatch .fdPrefix = some .fd) := by decide

theorem witness_undocFlags_values : State.reset.cfg.undocFlags = .values := by decide

theorem witness_ConditionTable :
    Config.default.pmMode = .part
      ∧ ({ Config.default with pmMode := .source 7 true } : Config).pmMode = .source 7 true := by decide

theorem witness_PushThenPop :
    let t := stepped (ready { z with sp := 0x8000, b := 0x12 } .none [0xC5])
    ({ t with halted := false } : State).mem = t.mem ∧ ({ t with halted := false } : State).memTape = []
      ∧ ({ t with halted := false } : State).regs.sp = t.regs.sp :=
  ⟨rfl, rfl, rfl⟩

theorem witness_ConditionalCycles :
    (fetched (ready z .none [0x10, 0xFE])).bus = [⟨.read, 0x0101, 0xFE, 3⟩, ⟨.fetch, 0x0100, 0x10, 5⟩] := by decide

theorem witness_InstructionsEndDone :
    prefixLatch .nop = none ∧ (∀ b, Instr.nop ≠ .ddNoEffect b ∧ Instr.nop ≠ .fdNoEffect b) :=
  ⟨rfl, fun _ => ⟨nofun, nofun⟩⟩

theorem witness_InvariantKept :
    State.reset.mem.wf = true ∧ State.reset.regs.iff1 = false ∧ State.reset.regs.iff2 = false
      ∧ State.reset.resetCount ≤ 3 ∧ step State.reset = .next (stepped State.reset) :=
  ⟨rfl, rfl, rfl, by decide, rfl⟩

theorem witness_IndexIsolation :
    latchOf .halt = .none ∧ latchOf (.bitR 7 .a) = .cb ∧ latchOf .ldir = .ed := by decide

theorem witness_ShadowIsolation : Instr.exDeHl ≠ .exAfAf ∧ Instr.exDeHl ≠ .exx := by decide

theorem witness_ResetAssertion : State.reset.resetLow = false ∧ writeInFlight State.reset = false := by decide

theorem witness_ResetPulse : xycbState.resetLow = false := by decide

theorem witness_DormantCoreStays :
    ({ State.reset with halted := true } : State).dormant = true
      ∧ (State.reset.resetLow = false ∧ ({ State.reset with active := false } : State).active = false)
      ∧ (({ State.reset with halted := true } : State).active = true) := by decide

theorem witness_FetchSchedule :
    State.reset.dormant = false ∧ State.reset.resetLow = false ∧ State.reset.seq.ended = true
      ∧ State.reset.seq.holdLeft = 0 ∧ State.reset.seq.nextCycle = .fetch := by decide

theorem witness_WriteSchedule :
    let s := reqWrite 0x7000 0x55 State.reset
    s.dormant = false ∧ s.resetLow = false ∧ s.seq.ended = true ∧ s.seq.holdLeft = 0
      ∧ s.seq.nextCycle = .write := by decide

end Sys2Proof.Machine
end

section
/-! PROOFS. What an instruction leaves behind, read off the shape of its steps. An instruction is said to finish as a
state `u` when its meaning is `u`, completed, up to what `State.arch` erases; one lemma per shape then turns the run of
the steps into the effect of the last one. -/

namespace Sys2Proof.Machine

/-! ### A byte read and a byte stored -/

@[simp] theorem readBy_mem (a : Word) (s : State) : (readBy a s).mem = s.mem := rfl
@[simp] theorem arch_readBy_settle (a : Word) (s : State) : (readBy a (settle s)).arch = (readBy a s).arch := rfl
@[simp] theorem arch_storeMemory (a : Word) (v : Byte) (s : State) :
    (storeMemory a v s).arch = record .write a v 0 (withMem (s.mem.write a v) s.arch) := rfl

/-! ### Finishing as a state -/

/-- The instruction completes, and what is left is `u` with the latch cleared. -/
def FinishesAs (i : Instr) (s u : State) : Prop := ∃ t, exec i s = .next t ∧ t.arch = (finished u).arch

/-- The run of an instruction's steps decides what it finishes as. -/
theorem finishesAs_of_runSteps {i : Instr} {p : Program} {s u : State} (hp : programOf i = p)
    (h : (runSteps p (settle s)).arch = (finished u).arch) : FinishesAs i s u :=
  ⟨_, exec_eq_run i s, hp ▸ h⟩

/-- Where memory is stored to, a claim gives it apart from the rest of the state. -/
theorem FinishesAs.memory_apart {i : Instr} {s u : State} (h : FinishesAs i s u) (m : Memory) :
    ∃ t, exec i s = .next t ∧ ({ t with mem := m } : State).arch = (finished (withMem m u)).arch
      ∧ t.mem = u.mem := by
  obtain ⟨t, ht, harch⟩ := h
  have hmem : t.arch.mem = u.mem := by rw [harch]; rfl
  exact ⟨t, ht, congrArg (withMem m) harch, hmem⟩

/-- A step function whose effect on the architectural part rests on the architectural part alone. -/
def ArchFn (f : StepFn) : Prop := ∀ ⦃s t : State⦄, s.arch = t.arch → (f s).arch = (f t).arch

theorem archFn_of_commutes {f : StepFn} (h : ∀ s, (f s).arch = f s.arch) : ArchFn f :=
  fun s t hst => (h s).trans ((congrArg f hst).trans (h t).symm)

/-- A step that does not signal done is followed by a bus cycle and the rest. -/
theorem runSteps_of_running {f g : StepFn} {rest : Program} {s : State} (h : (f s).seq.done = false) :
    runSteps (f :: g :: rest) s = runSteps (g :: rest) (busCycle (f s)) := by
  simp [runSteps_cons, h]

/-! ### The shapes -/

/-- `single`, when the step reads more than the architectural part. -/
theorem finishesAs_single_settled {i : Instr} {f : StepFn} {s u : State} (hp : programOf i = single f)
    (hf : (f (settle s)).arch = u.arch) : FinishesAs i s u :=
  finishesAs_of_runSteps hp (by simp [runSteps_single, hf])

theorem finishesAs_single {i : Instr} {f : StepFn} (hp : programOf i = single f) (hf : ArchFn f) (s : State) :
    FinishesAs i s (f s) :=
  finishesAs_single_settled hp (hf (arch_settle s))

theorem finishesAs_wide16 {i : Instr} {f : StepFn} (hp : programOf i = wide16 f) (hf : ArchFn f) (s : State) :
    FinishesAs i s (f s) :=
  finishesAs_of_runSteps hp (by
    have h : (f (busCycle (reqExec 3 (busCycle (reqExec 4 (settle s)))))).arch = (f s).arch := hf (by simp)
    simp [wide16, runSteps_cons, runSteps_last, h])

theorem finishesAs_readAt {i : Instr} {addr : State → Word} {f : Byte → StepFn} (hp : programOf i = readAt addr f)
    (ha : ∀ s, addr (settle s) = addr s) (hf : ∀ v, ArchFn (f v)) (s : State) :
    FinishesAs i s (f (memAnswer (addr s) s) (readBy (addr s) s)) :=
  finishesAs_of_runSteps hp (by
    have h : (f (memAnswer (addr s) s) (busCycle (reqRead (addr s) (settle s)))).arch
        = (f (memAnswer (addr s) s) (readBy (addr s) s)).arch := hf _ rfl
    simp [readAt, runSteps_cons, runSteps_last, ha, h])

theorem finishesAs_readAtXy {i : Instr} {xy : XY} {d : Byte} {f : Byte → StepFn}
    (hp : programOf i = readAtXy xy d f) (hf : ∀ v, ArchFn (f v)) (s : State) :
    FinishesAs i s (f (memAnswer (indexAddress xy d s) s) (readBy (indexAddress xy d s) s)) :=
  finishesAs_of_runSteps hp (by
    have h : (f (memAnswer (indexAddress xy d s) s)
          (busCycle (reqRead (indexAddress xy d s) (busCycle (reqExec 5 (formAddress xy d (settle s))))))).arch
        = (f (memAnswer (indexAddress xy d s) s) (readBy (indexAddress xy d s) s)).arch := hf _ rfl
    simp only [formAddress, indexAddress_settle] at h
    simp [readAtXy, runSteps_cons, runSteps_last, formAddress, h])

/-! ### The engine's writes rest on the architectural part -/

/-- The result is put back by a writer that commutes with `arch`. -/
theorem archFn_applyInc8 {get : State → Byte} {put : Byte → StepFn} (hg : ∀ s, get s.arch = get s)
    (hp : ∀ v s, (put v s).arch = put v s.arch) : ArchFn (fun s => applyInc8 (get s) put s) :=
  archFn_of_commutes fun s => by simp [applyInc8, hp, hg]

theorem archFn_applyDec8 {get : State → Byte} {put : Byte → StepFn} (hg : ∀ s, get s.arch = get s)
    (hp : ∀ v s, (put v s).arch = put v s.arch) : ArchFn (fun s => applyDec8 (get s) put s) :=
  archFn_of_commutes fun s => by simp [applyDec8, hp, hg]

theorem archFn_applyAlu {get : State → Byte} (op : AluOp) (hg : ∀ s, get s.arch = get s) :
    ArchFn (fun s => applyAlu op (get s) s) :=
  archFn_of_commutes fun s => by simp [applyAlu, hg]

theorem archFn_applyBit {get : State → Byte} (b : BitVec 3) (hg : ∀ s, get s.arch = get s) :
    ArchFn (fun s => applyBit b (get s) s) :=
  archFn_of_commutes fun s => by simp [applyBit, hg]

theorem archFn_applyAdd16 {a b : State → Word} {put : Word → StepFn} (ha : ∀ s, a s.arch = a s)
    (hb : ∀ s, b s.arch = b s) (hp : ∀ v s, (put v s).arch = put v s.arch) :
    ArchFn (fun s => applyAdd16 (a s) (b s) put s) :=
  archFn_of_commutes fun s => by simp [applyAdd16, hp, ha, hb]

theorem archFn_applyAdc16 (rp : RP) : ArchFn (fun s => applyAdc16 (getRp rp s) s) :=
  archFn_of_commutes fun s => by simp [applyAdc16]

theorem archFn_applySbc16 (rp : RP) : ArchFn (fun s => applySbc16 (getRp rp s) s) :=
  archFn_of_commutes fun s => by simp [applySbc16]

theorem archFn_applyRota (k : RotOp) : ArchFn (applyRota k) := archFn_of_commutes fun _ => rfl
theorem archFn_applyDaa : ArchFn applyDaa := archFn_of_commutes fun _ => rfl
theorem archFn_applyCpl : ArchFn applyCpl := archFn_of_commutes fun _ => rfl
theorem archFn_applyNeg : ArchFn applyNeg := archFn_of_commutes fun _ => rfl

end Sys2Proof.Machine
end

section
/-! PROOFS. 8-bit arithmetic and logic (spec/43_alu8.md, spec/41_flag_alu_engine.md). -/

namespace Sys2Proof.Machine

/-! ### The operand forms of `alu[y]` -/

/-- The number of an operation in `alu[y]` (spec/30_encoding.md R305). -/
def aluCode (op : AluOp) : BitVec 3 :=
  match op with
  | .add => 0
  | .adc => 1
  | .sub => 2
  | .sbc => 3
  | .and => 4
  | .xor => 5
  | .or => 6
  | .cp => 7

/-- The steps of an operation in a form. -/
def AluForm.program (form : AluForm) (op : AluOp) : Program :=
  match form with
  | .register r => single (fun s => applyAlu op (getR r s) s)
  | .immediate n => single (applyAlu op n)
  | .atHl => readAt State.hl (applyAlu op)
  | .half xy k => single (fun s => applyAlu op (getHalf xy k s) s)
  | .indexed xy d => readAtXy xy d (applyAlu op)

theorem programOf_aluForm (form : AluForm) (op : AluOp) : programOf (form.instr (aluCode op)) = form.program op := by
  cases form with
  | register r | immediate n | atHl => cases op <;> rfl
  | half xy k | indexed xy d => cases xy <;> cases op <;> rfl

@[simp] theorem AluForm.readBy_regs (form : AluForm) (s : State) : (form.readBy s).regs = s.regs := by
  cases form <;> rfl
@[simp] theorem AluForm.readBy_cfg (form : AluForm) (s : State) : (form.readBy s).cfg = s.cfg := by
  cases form <;> rfl

/-- In every form the operation is applied to the form's operand. -/
theorem finishesAs_aluForm (form : AluForm) (op : AluOp) (s : State) :
    FinishesAs (form.instr (aluCode op)) s (applyAlu op (form.operand s) (form.readBy s)) := by
  have hp := programOf_aluForm form op
  cases form with
  | register r => exact finishesAs_single hp (archFn_applyAlu op (getR_arch r)) s
  | immediate n => exact finishesAs_single hp (archFn_applyAlu op fun _ => rfl) s
  | atHl => exact finishesAs_readAt hp settle_hl (fun _ => archFn_applyAlu op fun _ => rfl) s
  | half xy k => exact finishesAs_single hp (archFn_applyAlu op (getHalf_arch xy k)) s
  | indexed xy d => exact finishesAs_readAtXy hp (fun _ => archFn_applyAlu op fun _ => rfl) s

/-- An operation leaves in A and F what the engine's function answers. -/
theorem exec_aluForm (form : AluForm) (op : AluOp) (s : State) :
    ∃ t, exec (form.instr (aluCode op)) s = .next t
      ∧ t.arch = (finished (setR .a (alu s.cfg op s.regs.a (form.operand s) s.regs.f).1
          (setF (alu s.cfg op s.regs.a (form.operand s) s.regs.f).2 (form.readBy s)))).arch := by
  have h := finishesAs_aluForm form op s
  simp only [applyAlu, AluForm.readBy_regs, AluForm.readBy_cfg] at h
  exact h

/-! ### The flags of the engine's 8-bit functions -/

/-- `add8` packs the flags as R453 gives them. -/
theorem add8_flags (cfg : Config) (a v : Byte) (cin : Bool) :
    let r := a.toNat + v.toNat + cin.toNat
    let res := BitVec.ofNat 8 r
    let f := (add8 cfg a v cin).2
    resultFlags f res ∧ flagN f = false ∧ flagC f = decide (255 < r)
      ∧ flagPV f = (a.getLsbD 7 == v.getLsbD 7 && res.getLsbD 7 != a.getLsbD 7)
      ∧ flagH f = halfCarry cfg (decide (15 < a.toNat % 16 + v.toNat % 16 + cin.toNat)) :=
  ⟨resultFlags_mkF .., flagN_mkF .., flagC_mkF .., flagPV_mkF .., (flagH_mkF ..).trans (half8_eq_halfCarry ..)⟩

/-- `sub8` packs the flags as R454 gives them. -/
theorem sub8_flags (cfg : Config) (a v : Byte) (cin : Bool) :
    let r : Int := (a.toNat : Int) - v.toNat - cin.toNat
    let res := BitVec.ofInt 8 r
    let f := (sub8 cfg a v cin).2
    resultFlags f res ∧ flagN f = true ∧ flagC f = decide (r < 0)
      ∧ flagPV f = (a.getLsbD 7 != v.getLsbD 7 && res.getLsbD 7 != a.getLsbD 7)
      ∧ flagH f = halfCarry cfg (decide (a.toNat % 16 < v.toNat % 16 + cin.toNat)) :=
  ⟨resultFlags_mkF .., flagN_mkF .., flagC_mkF .., flagPV_mkF .., (flagH_mkF ..).trans (half8_eq_halfCarry ..)⟩

/-- `logic8` packs the flags as R455 gives them. -/
theorem logic8_flags (h : Bool) (res : Byte) :
    let f := (logic8 h res).2
    resultFlags f res ∧ flagPV f = evenBits res ∧ flagH f = h ∧ flagN f = false ∧ flagC f = false :=
  ⟨resultFlags_mkF .., (flagPV_mkF ..).trans (parity_eq_evenBits res), flagH_mkF .., flagN_mkF .., flagC_mkF ..⟩

/-- The narrowed integer difference of two words is their difference. -/
theorem ofInt_toNat_sub {w : Nat} (x y : BitVec w) : BitVec.ofInt w ((x.toNat : Int) - y.toNat) = x - y := by
  rw [sub_eq_add_neg, BitVec.ofInt_add, BitVec.ofInt_neg]
  simp [BitVec.sub_eq_add_neg]

/-- A difference is 0 just when its operands are equal. -/
theorem zeroOf_sub (a b : Byte) : zeroOf (a - b) = decide (a = b) := by
  unfold zeroOf
  rw [beq_eq_decide, decide_eq_decide]
  exact sub_eq_zero

/-- `compare8` packs the flags of the difference, with Y and X under `CP_XY` (R456). -/
theorem compare8_flags (cfg : Config) (a v : Byte) :
    let r : Int := (a.toNat : Int) - v.toNat
    let res := BitVec.ofInt 8 r
    let mirrored := match cfg.cpXy with | .result => res | .operand => v
    let f := compare8 cfg a v
    flagS f = res.getLsbD 7 ∧ flagZ f = decide (a = v)
      ∧ flagY f = mirrored.getLsbD 5 ∧ flagX f = mirrored.getLsbD 3
      ∧ flagN f = true ∧ flagC f = decide (r < 0)
      ∧ flagPV f = (a.getLsbD 7 != v.getLsbD 7 && res.getLsbD 7 != a.getLsbD 7)
      ∧ flagH f = halfCarry cfg (decide (a.toNat % 16 < v.toNat % 16)) := by
  have hz := zeroOf_sub a v
  rw [← ofInt_toNat_sub] at hz
  cases h : cfg.cpXy <;>
    simp [compare8, h, sub8, signOf, mirror5, mirror3, half8_eq_halfCarry, hz]

/-- `inc8` packs the flags as R457 gives them. -/
theorem inc8_flags (cfg : Config) (v f0 : Byte) :
    let f := (inc8 cfg v f0).2
    resultFlags f (v + 1) ∧ flagPV f = decide (v = 0x7F) ∧ flagN f = false ∧ flagC f = flagC f0
      ∧ flagH f = halfCarry cfg (decide (v.toNat % 16 = 15)) :=
  ⟨resultFlags_mkF .., flagPV_mkF .., flagN_mkF .., flagC_mkF .., (flagH_mkF ..).trans (half8_eq_halfCarry ..)⟩

/-- `dec8` packs the flags as R458 gives them. -/
theorem dec8_flags (cfg : Config) (v f0 : Byte) :
    let f := (dec8 cfg v f0).2
    resultFlags f (v - 1) ∧ flagPV f = decide (v = 0x80) ∧ flagN f = true ∧ flagC f = flagC f0
      ∧ flagH f = halfCarry cfg (decide (v.toNat % 16 = 0)) :=
  ⟨resultFlags_mkF .., flagPV_mkF .., flagN_mkF .., flagC_mkF .., (flagH_mkF ..).trans (half8_eq_halfCarry ..)⟩

/-! ### Increment and decrement of a register -/

@[simp] theorem ByteReg.get_arch (g : ByteReg) (s : State) : g.get s.arch = g.get s := by
  cases g with
  | main r => exact getR_arch r s
  | half xy k => exact getHalf_arch xy k s

@[simp] theorem arch_ByteReg_set (g : ByteReg) (v : Byte) (s : State) : (g.set v s).arch = g.set v s.arch := by
  cases g with
  | main r => exact arch_setR r v s
  | half xy k => exact arch_setHalf xy k v s

theorem programOf_byteReg_inc (g : ByteReg) : programOf g.inc = single (fun s => applyInc8 (g.get s) g.set s) := by
  cases g with
  | main r => rfl
  | half xy k => cases xy <;> rfl

theorem programOf_byteReg_dec (g : ByteReg) : programOf g.dec = single (fun s => applyDec8 (g.get s) g.set s) := by
  cases g with
  | main r => rfl
  | half xy k => cases xy <;> rfl

end Sys2Proof.Machine

namespace Sys2Proof.Settled

open Machine

/-- Settles O15: ADD is `add8` with no carry in, ADC is `add8` with the carry flag. -/
theorem addAndAdc : Obligations.AddAndAdc := by
  intro form withCarry s
  cases withCarry with
  | false =>
    obtain ⟨t, ht, harch⟩ := exec_aluForm form .add s
    exact ⟨t, _, ht, harch, add8_flags ..⟩
  | true =>
    obtain ⟨t, ht, harch⟩ := exec_aluForm form .adc s
    exact ⟨t, _, ht, harch, add8_flags ..⟩

/-- Settles O16: SUB is `sub8` with no borrow in, SBC is `sub8` with the carry flag. -/
theorem subAndSbc : Obligations.SubAndSbc := by
  intro form withBorrow s
  cases withBorrow with
  | false =>
    obtain ⟨t, ht, harch⟩ := exec_aluForm form .sub s
    exact ⟨t, _, ht, harch, sub8_flags ..⟩
  | true =>
    obtain ⟨t, ht, harch⟩ := exec_aluForm form .sbc s
    exact ⟨t, _, ht, harch, sub8_flags ..⟩

/-- Settles O17: the three operations are `logic8` of their results, with H 1 for AND alone. -/
theorem logicOps : Obligations.LogicOps := by
  intro form s
  obtain ⟨t, ht, htarch⟩ := exec_aluForm form .and s
  obtain ⟨u, hu, huarch⟩ := exec_aluForm form .xor s
  obtain ⟨w, hw, hwarch⟩ := exec_aluForm form .or s
  exact ⟨⟨t, _, ht, htarch, logic8_flags ..⟩, ⟨u, _, hu, huarch, logic8_flags ..⟩,
    ⟨w, _, hw, hwarch, logic8_flags ..⟩⟩

/-- Settles O18: CP puts A back as it was, and its flags are those of `compare8`. -/
theorem compare : Obligations.Compare := by
  intro form s
  obtain ⟨t, ht, harch⟩ := exec_aluForm form .cp s
  have hA (f : Byte) : setR .a s.regs.a (setF f (form.readBy s)) = setF f (form.readBy s) := by
    rw [← form.readBy_regs s]
    rfl
  exact ⟨t, _, ht, harch.trans (congrArg (fun u => (finished u).arch) (hA _)), compare8_flags ..⟩

/-- Settles O19: the register form of `inc8` and `dec8`. -/
theorem incDecRegister : Obligations.IncDecRegister := by
  intro g s
  obtain ⟨t, ht, htarch⟩ :=
    finishesAs_single (programOf_byteReg_inc g) (archFn_applyInc8 g.get_arch (arch_ByteReg_set g)) s
  obtain ⟨u, hu, huarch⟩ :=
    finishesAs_single (programOf_byteReg_dec g) (archFn_applyDec8 g.get_arch (arch_ByteReg_set g)) s
  exact ⟨⟨t, _, ht, htarch, inc8_flags ..⟩, ⟨u, _, hu, huarch, dec8_flags ..⟩⟩

end Sys2Proof.Settled
end

section
/-! PROOFS. Decimal adjust, the accumulator and flag instructions, and the conditions (spec/41_flag_alu_engine.md R465,
R466, R470, R472). -/

namespace Sys2Proof.Machine

/-- The adjustment of R465 as one word, and as the sum of what its two digits ask for. -/
theorem daa_adjustment (high low : Bool) :
    ((if high then 0x60#8 else 0) ||| (if low then 0x06#8 else 0) : Byte)
      = BitVec.ofNat 8 ((if high then 0x60 else 0) + (if low then 0x06 else 0)) := by
  cases high <;> cases low <;> rfl

/-- The adjusted accumulator, narrowed from the integers. -/
theorem adjusted_eq_narrowed (n : Bool) (a : Byte) (d : Nat) :
    (if n then a - BitVec.ofNat 8 d else a + BitVec.ofNat 8 d)
      = if n then BitVec.ofInt 8 ((a.toNat : Int) - d) else BitVec.ofNat 8 (a.toNat + d) := by
  cases n with
  | false => simp [BitVec.ofNat_add]
  | true => simp [sub_eq_add_neg, BitVec.ofInt_add, BitVec.ofInt_neg]

theorem neg8_result (cfg : Config) (v : Byte) : (neg8 cfg v).1 = 0 - v := by
  rw [← ofInt_toNat_sub]
  simp [neg8, sub8]

theorem applyNeg_eq (s : State) : applyNeg s = setR .a (0 - s.regs.a) (setF (neg8 s.cfg s.regs.a).2 s) := by
  rw [← neg8_result s.cfg]
  rfl

/-- `neg8` packs the flags of `0 - v`, where PV and C single out 0x80 and 0 (R466). -/
theorem neg8_flags (cfg : Config) (v : Byte) :
    let f := (neg8 cfg v).2
    resultFlags f (0 - v) ∧ flagN f = true ∧ flagC f = decide (v ≠ 0) ∧ flagPV f = decide (v = 0x80)
      ∧ flagH f = halfCarry cfg (decide (v.toNat % 16 ≠ 0)) := by
  obtain ⟨hres, hn, hc, hpv, hh⟩ := sub8_flags cfg 0 v false
  rw [show BitVec.ofInt 8 _ = 0 - v from neg8_result cfg v] at hres hpv
  have hborrow : ∀ v : Byte, decide ((((0 : Byte).toNat : Int) - v.toNat - false.toNat) < 0) = decide (v ≠ 0) := by
    decide
  have hoverflow : ∀ v : Byte, ((0 : Byte).getLsbD 7 != v.getLsbD 7 && (0 - v).getLsbD 7 != (0 : Byte).getLsbD 7)
      = decide (v = 0x80) := by decide
  have hhalf : ∀ v : Byte, decide ((0 : Byte).toNat % 16 < v.toNat % 16 + false.toNat)
      = decide (v.toNat % 16 ≠ 0) := by decide
  exact ⟨hres, hn, hc.trans (hborrow v), hpv.trans (hoverflow v), hh.trans (congrArg _ (hhalf v))⟩

/-- `cpl` packs the flags as R472 gives them. -/
theorem cpl_flags (a f0 : Byte) :
    let f := (cpl a f0).2
    sameSZPV f f0 ∧ flagC f = flagC f0 ∧ flagH f = true ∧ flagN f = true
      ∧ flagY f = !a.getLsbD 5 ∧ flagX f = !a.getLsbD 3 :=
  ⟨⟨flagS_mkF .., flagZ_mkF .., flagPV_mkF ..⟩, flagC_mkF .., flagH_mkF .., flagN_mkF ..,
    (flagY_mkF ..).trans (by simp [mirror5]), (flagX_mkF ..).trans (by simp [mirror3])⟩

/-- `scf` packs the flags as R472 gives them; the mask of free bits covers Y and X alone. -/
theorem scf_flags (cfg : Config) (draw : Nat) (a f0 : Byte) :
    let f := scf cfg draw a f0
    sameSZPV f f0 ∧ flagC f = true ∧ flagH f = false ∧ flagN f = false
      ∧ (cfg.undocFlags = .values → flagY f = a.getLsbD 5 ∧ flagX f = a.getLsbD 3) := by
  simp +contextual [scf, sameSZPV, mirror5, mirror3]

/-- `ccf` packs the flags as R472 gives them; the mask of free bits covers Y and X alone. -/
theorem ccf_flags (cfg : Config) (draw : Nat) (a f0 : Byte) :
    let f := ccf cfg draw a f0
    sameSZPV f f0 ∧ flagC f = (!flagC f0) ∧ flagH f = flagC f0 ∧ flagN f = false
      ∧ (cfg.undocFlags = .values → flagY f = a.getLsbD 5 ∧ flagX f = a.getLsbD 3) := by
  simp +contextual [ccf, sameSZPV, mirror5, mirror3]

end Sys2Proof.Machine

namespace Sys2Proof.Settled

open Machine

/-- Settles O21: `daa` adds or subtracts the adjustment and packs the flags as R465 gives them. -/
theorem decimalAdjust : Obligations.DecimalAdjust := by
  intro s
  dsimp only
  rw [← adjusted_eq_narrowed, ← daa_adjustment]
  obtain ⟨t, ht, harch⟩ := finishesAs_single (i := .daa) rfl archFn_applyDaa s
  exact ⟨t, _, ht, harch, resultFlags_mkF .., (flagPV_mkF ..).trans (parity_eq_evenBits _), flagN_mkF ..,
    flagC_mkF .., flagH_mkF ..⟩

/-- Settles O22: each instruction is one step of the engine's function. SCF and CCF also read which free value is next,
so they are followed through `settle`. -/
theorem accumulatorFlags : Obligations.AccumulatorFlags := by
  intro s
  obtain ⟨t, ht, htarch⟩ := finishesAs_single (i := .cpl) rfl archFn_applyCpl s
  obtain ⟨u, hu, huarch⟩ := finishesAs_single_settled (i := .scf) (s := s) (u := applyScf s) rfl rfl
  obtain ⟨w, hw, hwarch⟩ := finishesAs_single_settled (i := .ccf) (s := s) (u := applyCcf s) rfl rfl
  refine ⟨⟨t, _, ht, htarch, cpl_flags ..⟩, fun y => ?_, ⟨u, _, hu, huarch, scf_flags ..⟩,
    ⟨w, _, hw, hwarch, ccf_flags ..⟩⟩
  obtain ⟨t, ht, harch⟩ := finishesAs_single (i := .neg y) rfl archFn_applyNeg s
  rw [applyNeg_eq] at harch
  exact ⟨t, _, ht, harch, neg8_flags ..⟩

/-- Settles O28: the table of R470, entry by entry; P and M read the configuration. -/
theorem conditionTable : Obligations.ConditionTable := by
  intro cfg f
  refine ⟨rfl, rfl, rfl, rfl, rfl, rfl, fun h => ?part, fun b set h => ?source, rfl, rfl, rfl, rfl⟩
  case part => simp [Machine.cond, h]
  case source => rintro cc (rfl | rfl) <;> simp [Machine.cond, h]

end Sys2Proof.Settled
end

section
/-! PROOFS. 16-bit arithmetic (spec/44_arith16.md, spec/41_flag_alu_engine.md R462 to R464). -/

namespace Sys2Proof.Machine

/-- `add16` packs the flags as R462 gives them. -/
theorem add16_flags (a b : Word) (f0 : Byte) :
    let r := a.toNat + b.toNat
    let res := BitVec.ofNat 16 r
    let f := (add16 a b f0).2
    sameSZPV f f0 ∧ flagY f = res.getLsbD 13 ∧ flagX f = res.getLsbD 11 ∧ flagN f = false
      ∧ flagC f = decide (65535 < r) ∧ flagH f = decide (0x0FFF < a.toNat % 0x1000 + b.toNat % 0x1000) :=
  ⟨⟨flagS_mkF .., flagZ_mkF .., flagPV_mkF ..⟩, flagY_mkF .., flagX_mkF .., flagN_mkF .., flagC_mkF .., flagH_mkF ..⟩

/-- The source of an ADD in the DD/FD tables, where HL is the index register. -/
theorem getRpX_eq_ite (xy : XY) (rp : RP) (s : State) :
    getRpX xy rp s = if rp = .hl then getX xy s else getRp rp s := by
  cases rp <;> rfl

theorem programOf_addXRp (xy : XY) (rp : RP) :
    programOf (pick xy (.addIxRp rp) (.addIyRp rp))
      = wide16 (fun s => applyAdd16 (getX xy s) (getRpX xy rp s) (setX xy) s) := by
  cases xy <;> rfl

/-- A word is 0 just when its value is. -/
theorem word_beq_zero (w : Word) : (w == 0) = decide (w.toNat = 0) := by
  rw [beq_eq_decide, decide_eq_decide]
  exact BitVec.toNat_eq

/-- A packed F whose S, Z, Y and X are those of a 16-bit result (R463, R464). -/
theorem wordFlags_mkF (res : Word) (h pv n c : Bool) :
    let f := mkF (res.getLsbD 15) (res == 0) (res.getLsbD 13) h (res.getLsbD 11) pv n c
    flagS f = res.getLsbD 15 ∧ flagZ f = decide (res.toNat = 0) ∧ flagY f = res.getLsbD 13
      ∧ flagX f = res.getLsbD 11 ∧ flagN f = n ∧ flagC f = c ∧ flagH f = h ∧ flagPV f = pv :=
  ⟨flagS_mkF .., (flagZ_mkF ..).trans (word_beq_zero res), flagY_mkF .., flagX_mkF .., flagN_mkF .., flagC_mkF ..,
    flagH_mkF .., flagPV_mkF ..⟩

end Sys2Proof.Machine

namespace Sys2Proof.Settled

open Machine

/-- Settles O23: the three instructions are `add16` on HL or on the index register. -/
theorem add16 : Obligations.Add16 := by
  refine ⟨fun rp s => ?main, fun xy rp s => ?index⟩
  case main =>
    obtain ⟨t, ht, harch⟩ :=
      finishesAs_wide16 (i := .addHlRp rp) rfl (archFn_applyAdd16 arch_hl (getRp_arch rp) arch_setHl) s
    exact ⟨t, _, ht, harch, add16_flags ..⟩
  case index =>
    obtain ⟨t, ht, harch⟩ := finishesAs_wide16 (programOf_addXRp xy rp)
      (archFn_applyAdd16 (getX_arch xy) (getRpX_arch xy rp) (arch_setX xy)) s
    rw [← getRpX_eq_ite]
    exact ⟨t, _, ht, harch, add16_flags ..⟩

/-- Settles O24: `adc16` and `sbc16` pack all eight flags from the exact sum and difference. -/
theorem adcSbc16 : Obligations.AdcSbc16 := by
  intro rp s
  obtain ⟨t, ht, htarch⟩ := finishesAs_wide16 (i := .adcHlRp rp) rfl (archFn_applyAdc16 rp) s
  obtain ⟨u, hu, huarch⟩ := finishesAs_wide16 (i := .sbcHlRp rp) rfl (archFn_applySbc16 rp) s
  exact ⟨⟨t, _, ht, htarch, wordFlags_mkF ..⟩, ⟨u, _, hu, huarch, wordFlags_mkF ..⟩⟩

end Sys2Proof.Settled
end

section
/-! PROOFS. Rotates of the accumulator and BIT (spec/46_rotate_bit.md, spec/41_flag_alu_engine.md R459 to R461). -/

namespace Sys2Proof.Machine

/-! ### The rotates -/

/-- The number of an operation in `rot[y]` (spec/30_encoding.md R305). -/
def rotCode (k : RotOp) : BitVec 3 :=
  match k with
  | .rlc => 0
  | .rrc => 1
  | .rl => 2
  | .rr => 3
  | .sla => 4
  | .sra => 5
  | .sll => 6
  | .srl => 7

/-- The engine's shifts and masks are the rotates of the table of R459. -/
theorem rotate_eq_rotated (k : RotOp) (v : Byte) (cin : Bool) :
    rotate k v cin = (rotated (rotCode k) v cin, rotatedOut (rotCode k) v) := by
  cases k <;> cases cin <;> revert v <;> decide

/-- `rota` packs the reduced flags of R460. -/
theorem rota_flags (k : RotOp) (a f0 : Byte) :
    let res := rotated (rotCode k) a (flagC f0)
    ∃ f, rota k a f0 = (res, f)
      ∧ sameSZPV f f0 ∧ flagY f = res.getLsbD 5 ∧ flagX f = res.getLsbD 3
      ∧ flagH f = false ∧ flagN f = false ∧ flagC f = rotatedOut (rotCode k) a := by
  unfold rota
  rw [rotate_eq_rotated]
  exact ⟨_, rfl, ⟨flagS_mkF .., flagZ_mkF .., flagPV_mkF ..⟩, flagY_mkF .., flagX_mkF .., flagH_mkF .., flagN_mkF ..,
    flagC_mkF ..⟩

/-- An accumulator rotate, whichever it is. -/
theorem exec_rota {i : Instr} {k : RotOp} (hp : programOf i = single (applyRota k)) (s : State) :
    let res := rotated (rotCode k) s.regs.a (flagC s.regs.f)
    ∃ t f, exec i s = .next t ∧ t.arch = (finished (setR .a res (setF f s))).arch
      ∧ sameSZPV f s.regs.f ∧ flagY f = res.getLsbD 5 ∧ flagX f = res.getLsbD 3
      ∧ flagH f = false ∧ flagN f = false ∧ flagC f = rotatedOut (rotCode k) s.regs.a := by
  obtain ⟨f, hf, hflags⟩ := rota_flags k s.regs.a s.regs.f
  obtain ⟨t, ht, harch⟩ := finishesAs_single hp (archFn_applyRota k) s
  simp only [applyRota, hf] at harch
  exact ⟨t, f, ht, harch, hflags⟩

/-! ### BIT -/

/-- `bitTest` packs the flags as R461 gives them. -/
theorem bitTest_flags (b : BitVec 3) (v f0 : Byte) :
    let tested := v.getLsbD b.toNat
    let f := bitTest b v f0
    flagZ f = (!tested) ∧ flagPV f = (!tested) ∧ flagS f = (decide (b = 7) && tested)
      ∧ flagY f = v.getLsbD 5 ∧ flagX f = v.getLsbD 3 ∧ flagH f = true ∧ flagN f = false ∧ flagC f = flagC f0 :=
  ⟨flagZ_mkF .., flagPV_mkF .., flagS_mkF .., flagY_mkF .., flagX_mkF .., flagH_mkF .., flagN_mkF .., flagC_mkF ..⟩

/-- What BIT does with the byte it has read: one T-state more, and the test. -/
def bitStep (b : BitVec 3) (v : Byte) (s : State) : State := applyBit b v (holdFor 1 s)

theorem arch_bitStep (b : BitVec 3) (v : Byte) (s : State) : (bitStep b v s).arch = (applyBit b v s).arch := by
  simp [bitStep, applyBit]

theorem archFn_bitStep (b : BitVec 3) (v : Byte) : ArchFn (bitStep b v) := fun s t h => by
  rw [arch_bitStep, arch_bitStep]
  exact archFn_applyBit (get := fun _ => v) b (fun _ => rfl) h

/-- The steps of a DDCB/FDCB form that only reads: `+2` on the `op` read, then the byte at `X+d` read and used
(spec/40_step_machine.md R410). -/
def readXyCb (xy : XY) (d : Byte) (f : Byte → StepFn) : Program :=
  [ fun s => reqRead (holdFor 2 (formAddress xy d s)).regs.wz (holdFor 2 (formAddress xy d s)),
    fun s => signalDone (f s.seq.dataIn s) ]

theorem finishesAs_readXyCb {i : Instr} {xy : XY} {d : Byte} {f : Byte → StepFn}
    (hp : programOf i = readXyCb xy d f) (hf : ∀ v, ArchFn (f v)) (s : State) :
    FinishesAs i s (f (memAnswer (indexAddress xy d s) s) (readBy (indexAddress xy d s) s)) :=
  finishesAs_of_runSteps hp (by
    have h : (f (memAnswer (indexAddress xy d s) s)
          (busCycle (reqRead (indexAddress xy d s) (holdFor 2 (formAddress xy d (settle s)))))).arch
        = (f (memAnswer (indexAddress xy d s) s) (readBy (indexAddress xy d s) s)).arch := hf _ (by
          simp [readBy])
    simp only [formAddress, indexAddress_settle] at h
    simp [readXyCb, runSteps_cons, runSteps_last, formAddress, h])

theorem programOf_bitAtXy (xy : XY) (b : BitVec 3) (d : Byte) (z : BitVec 3) :
    programOf (pick xy (.bitAtIx b d z) (.bitAtIy b d z)) = readXyCb xy d (bitStep b) := by
  cases xy <;> rfl

theorem finishesAs_byteAt_bit (g : ByteAt) (b z : BitVec 3) (s : State) :
    FinishesAs (g.bit b z) s (bitStep b (g.value s) (readBy (g.addr s) s)) := by
  cases g with
  | hl => exact finishesAs_readAt (addr := State.hl) (f := bitStep b) rfl settle_hl (archFn_bitStep b) s
  | indexed xy d => exact finishesAs_readXyCb (programOf_bitAtXy xy b d z) (archFn_bitStep b) s

end Sys2Proof.Machine

namespace Sys2Proof.Settled

open Machine

/-- Settles O33: the four instructions are `rota` of the first four rotates. -/
theorem accumulatorRotates : Obligations.AccumulatorRotates := fun s =>
  ⟨exec_rota (i := .rlca) (k := .rlc) rfl s, exec_rota (i := .rrca) (k := .rrc) rfl s,
    exec_rota (i := .rla) (k := .rl) rfl s, exec_rota (i := .rra) (k := .rr) rfl s⟩

/-- Settles O36: every form reads its operand and leaves `bitTest` of it in F. -/
theorem bitTest : Obligations.BitTest := by
  refine ⟨fun b r s => ?register, fun g b z s => ?memory⟩
  case register =>
    obtain ⟨t, ht, harch⟩ := finishesAs_single (i := .bitR b r) rfl (archFn_applyBit b (getR_arch r)) s
    exact ⟨t, _, ht, harch, bitTest_flags ..⟩
  case memory =>
    obtain ⟨t, ht, harch⟩ := finishesAs_byteAt_bit g b z s
    rw [arch_finished, arch_bitStep] at harch
    exact ⟨t, _, ht, harch, bitTest_flags ..⟩

end Sys2Proof.Settled
end

section
/-! PROOFS. The block instructions (spec/47_exchange_block.md R724 to R731, spec/41_flag_alu_engine.md R467, R468). -/

namespace Sys2Proof.Machine

/-- `ldblock` packs the flags as R467 gives them. -/
theorem ldblock_flags (cfg : Config) (draw : Nat) (v a : Byte) (bc : Word) (f0 : Byte) :
    let n := v + a
    let f := ldblock cfg draw v a bc f0
    flagPV f = decide (bc ≠ 0) ∧ flagH f = false ∧ flagN f = false
      ∧ flagS f = flagS f0 ∧ flagZ f = flagZ f0 ∧ flagC f = flagC f0
      ∧ (cfg.undocFlags = .values → flagY f = n.getLsbD 1 ∧ flagX f = n.getLsbD 3) := by
  simp +contextual [ldblock, bne, beq_eq_decide]

/-- The narrowed difference of a byte and a flag. -/
theorem ofInt_toNat_sub_bool (x : Byte) (c : Bool) :
    BitVec.ofInt 8 ((x.toNat : Int) - c.toNat) = x - (if c then 1 else 0) := by
  cases c with
  | false => exact ofInt_toNat_sub x 0
  | true => exact ofInt_toNat_sub x 1

/-- `cpblock` packs the flags as R468 gives them. -/
theorem cpblock_flags (cfg : Config) (draw : Nat) (v a : Byte) (bc : Word) (f0 : Byte) :
    let res := a - v
    let h := halfCarry cfg (decide (a.toNat % 16 < v.toNat % 16))
    let n := BitVec.ofInt 8 ((res.toNat : Int) - h.toNat)
    let f := cpblock cfg draw v a bc f0
    flagS f = res.getLsbD 7 ∧ flagZ f = decide (a = v) ∧ flagH f = h ∧ flagPV f = decide (bc ≠ 0)
      ∧ flagN f = true ∧ flagC f = flagC f0
      ∧ (cfg.undocFlags = .values → flagY f = n.getLsbD 1 ∧ flagX f = n.getLsbD 3) := by
  simp only [ofInt_toNat_sub_bool]
  simp +contextual [cpblock, bne, beq_eq_decide, signOf, half8_eq_halfCarry, zeroOf_sub]

/-! ### The repetition -/

/-- The last two steps of a block instruction: after `f`, which leaves `u`, it is either done or steps PC back over its
two bytes. -/
theorem arch_runSteps_repeat (f : StepFn) (again : State → Bool) {s u : State} (hd : (f s).seq.done = false)
    (hu : (f s).arch = u.arch) :
    (runSteps [fun s => repeatOrDone (again s) (f s), refetch] s).arch
      = (finished (setPc (if again s then u.regs.pc - 2 else u.regs.pc) u)).arch := by
  have hpc : (f s).regs.pc = u.regs.pc := congrArg (fun t => t.regs.pc) hu
  cases h : again s with
  | false =>
    have hkept : setPc u.regs.pc u.arch = u.arch := rfl
    simp [runSteps_cons, repeatOrDone, h, hu, hkept]
  | true => simp [runSteps_cons, runSteps_last, repeatOrDone, refetch, h, hd, hu, hpc]

/-! ### Writes of different pairs commute -/

theorem setBc_setDe (v w : Word) (s : State) : setBc v (setDe w s) = setDe w (setBc v s) := rfl
theorem setBc_setHl (v w : Word) (s : State) : setBc v (setHl w s) = setHl w (setBc v s) := rfl
theorem setDe_setHl (v w : Word) (s : State) : setDe v (setHl w s) = setHl w (setDe v s) := rfl

/-! ### The block loads -/

/-- The registers and flags of a block load, once the byte it moves stands in `data_in`. -/
def blockLoadStep (inc : Word) (s : State) : State :=
  let s := holdFor 2 s
  let s := setBc (s.bc - 1) (setDe (s.de + inc) (setHl (s.hl + inc) s))
  setF (ldblock s.cfg s.draws s.seq.dataIn s.regs.a s.bc s.regs.f) s

theorem blockLoad_eq (inc : Word) (repeats : Bool) :
    blockLoad inc repeats =
      [ fun s => reqRead s.hl s,
        fun s => reqWrite s.de s.seq.dataIn s,
        fun s => repeatOrDone (repeats && s.bc - 1 != 0) (blockLoadStep inc s),
        refetch ] := by
  simp [blockLoad, blockLoadStep]

theorem arch_blockLoadStep (inc : Word) (s : State) :
    (blockLoadStep inc s).arch
      = setF (ldblock s.cfg s.draws s.seq.dataIn s.regs.a (s.bc - 1) s.regs.f)
          (setHl (s.hl + inc) (setDe (s.de + inc) (setBc (s.bc - 1) s.arch))) := by
  simp [blockLoadStep, setBc_setDe, setBc_setHl, setDe_setHl]

/-- The state in which a block load's byte has been moved, before its registers are written. -/
def blockMoved (s : State) : State :=
  busCycle (reqWrite s.de (memAnswer s.hl s) (busCycle (reqRead s.hl (settle s))))

theorem runSteps_blockLoad (inc : Word) (repeats : Bool) (s : State) :
    runSteps (blockLoad inc repeats) (settle s)
      = runSteps [fun s => repeatOrDone (repeats && s.bc - 1 != 0) (blockLoadStep inc s), refetch] (blockMoved s) := by
  rw [blockLoad_eq, runSteps_of_running rfl, runSteps_of_running rfl]
  simp [blockMoved]

theorem arch_blockLoadStep_blockMoved (inc : Word) (s : State) :
    (blockLoadStep inc (blockMoved s)).arch
      = (setF (ldblock s.cfg s.draws (memAnswer s.hl s) s.regs.a (s.bc - 1) s.regs.f)
          (setHl (s.hl + inc) (setDe (s.de + inc) (setBc (s.bc - 1)
            (storeMemory s.de (memAnswer s.hl s) (readBy s.hl s)))))).arch := by
  rw [arch_blockLoadStep]
  simp [blockMoved]

/-- A block load moves its byte, steps the pointers, counts BC down and, to repeat, steps PC back. -/
theorem finishesAs_blockLoad {i : Instr} {inc : Word} {repeats : Bool} (hp : programOf i = blockLoad inc repeats)
    (s : State) :
    FinishesAs i s
      (setF (ldblock s.cfg s.draws (memAnswer s.hl s) s.regs.a (s.bc - 1) s.regs.f)
        (setHl (s.hl + inc) (setDe (s.de + inc) (setBc (s.bc - 1)
          (setPc (if repeats && s.bc - 1 != 0 then s.regs.pc - 2 else s.regs.pc)
            (storeMemory s.de (memAnswer s.hl s) (readBy s.hl s))))))) := by
  refine finishesAs_of_runSteps hp ?_
  have hdone : (blockLoadStep inc (blockMoved s)).seq.done = false := by simp [blockLoadStep, blockMoved]
  have hbc : (blockMoved s).bc = s.bc := by simp [blockMoved]
  rw [runSteps_blockLoad, arch_runSteps_repeat (blockLoadStep inc) (fun s => repeats && s.bc - 1 != 0) hdone
    (arch_blockLoadStep_blockMoved inc s), hbc]
  rfl

/-- A block load, with memory given apart and the flags of R467. -/
theorem exec_blockLoad {i : Instr} {inc : Word} {repeats : Bool} (hp : programOf i = blockLoad inc repeats)
    (s : State) :
    let v := memAnswer s.hl s
    let bc' := s.bc - 1
    let n := v + s.regs.a
    ∃ t f, exec i s = .next t
      ∧ ({ t with mem := s.mem } : State).arch
          = (finished (setF f (setHl (s.hl + inc) (setDe (s.de + inc) (setBc bc'
              (setPc (if repeats && bc' != 0 then s.regs.pc - 2 else s.regs.pc)
                (record .write s.de v 3 (readBy s.hl s)))))))).arch
      ∧ storedByte s.mem t.mem s.de v
      ∧ flagPV f = decide (bc' ≠ 0) ∧ flagH f = false ∧ flagN f = false
      ∧ flagS f = flagS s.regs.f ∧ flagZ f = flagZ s.regs.f ∧ flagC f = flagC s.regs.f
      ∧ (s.cfg.undocFlags = .values → flagY f = n.getLsbD 1 ∧ flagX f = n.getLsbD 3) := by
  obtain ⟨t, ht, harch, hmem⟩ := (finishesAs_blockLoad hp s).memory_apart s.mem
  refine ⟨t, _, ht, harch, ?_, ldblock_flags ..⟩
  rw [hmem]
  exact storedByte_write s.mem s.de _

/-! ### The block compares -/

/-- The registers and flags of a block compare, once the byte it compares stands in `data_in`. -/
def blockCompareStep (inc : Word) (s : State) : State :=
  let s := setBc (s.bc - 1) (setHl (s.hl + inc) s)
  setF (cpblock s.cfg s.draws s.seq.dataIn s.regs.a s.bc s.regs.f) s

/-- A block compare repeats while BC is not 0 and the bytes differ: Z says whether they do. -/
theorem blockCompare_eq (inc : Word) (repeats : Bool) :
    blockCompare inc repeats =
      [ fun s => reqRead s.hl s,
        reqExec 5,
        fun s => repeatOrDone (repeats && s.bc - 1 != 0 && s.regs.a != s.seq.dataIn) (blockCompareStep inc s),
        refetch ] := by
  have hz (cfg : Config) (draw : Nat) (v a : Byte) (bc : Word) (f : Byte) :
      (!flagZ (cpblock cfg draw v a bc f)) = (a != v) := by
    obtain ⟨-, hz, -⟩ := cpblock_flags cfg draw v a bc f
    rw [hz, bne, beq_eq_decide]
  simp [blockCompare, blockCompareStep, hz]

theorem arch_blockCompareStep (inc : Word) (s : State) :
    (blockCompareStep inc s).arch
      = setF (cpblock s.cfg s.draws s.seq.dataIn s.regs.a (s.bc - 1) s.regs.f)
          (setHl (s.hl + inc) (setBc (s.bc - 1) s.arch)) := by
  simp [blockCompareStep, setBc_setHl]

/-- The state in which a block compare's byte has been read, before its registers are written. -/
def blockRead (s : State) : State := busCycle (reqExec 5 (busCycle (reqRead s.hl (settle s))))

theorem runSteps_blockCompare (inc : Word) (repeats : Bool) (s : State) :
    runSteps (blockCompare inc repeats) (settle s)
      = runSteps [fun s => repeatOrDone (repeats && s.bc - 1 != 0 && s.regs.a != s.seq.dataIn) (blockCompareStep inc s),
          refetch] (blockRead s) := by
  rw [blockCompare_eq, runSteps_of_running rfl, runSteps_of_running rfl]
  simp [blockRead]

theorem arch_blockCompareStep_blockRead (inc : Word) (s : State) :
    (blockCompareStep inc (blockRead s)).arch
      = (setF (cpblock s.cfg s.draws (memAnswer s.hl s) s.regs.a (s.bc - 1) s.regs.f)
          (setHl (s.hl + inc) (setBc (s.bc - 1) (readBy s.hl s)))).arch := by
  rw [arch_blockCompareStep]
  simp [blockRead]

/-- A block compare steps HL, counts BC down and, to repeat, steps PC back. -/
theorem finishesAs_blockCompare {i : Instr} {inc : Word} {repeats : Bool}
    (hp : programOf i = blockCompare inc repeats) (s : State) :
    FinishesAs i s
      (setF (cpblock s.cfg s.draws (memAnswer s.hl s) s.regs.a (s.bc - 1) s.regs.f)
        (setHl (s.hl + inc) (setBc (s.bc - 1)
          (setPc (if repeats && s.bc - 1 != 0 && s.regs.a != memAnswer s.hl s then s.regs.pc - 2 else s.regs.pc)
            (readBy s.hl s))))) := by
  refine finishesAs_of_runSteps hp ?_
  have hdone : (blockCompareStep inc (blockRead s)).seq.done = false := by simp [blockCompareStep, blockRead]
  have hbc : (blockRead s).bc = s.bc := by simp [blockRead]
  have ha : (blockRead s).regs.a = s.regs.a := by simp [blockRead]
  have hv : (blockRead s).seq.dataIn = memAnswer s.hl s := by simp [blockRead]
  rw [runSteps_blockCompare, arch_runSteps_repeat (blockCompareStep inc)
    (fun s => repeats && s.bc - 1 != 0 && s.regs.a != s.seq.dataIn) hdone
    (arch_blockCompareStep_blockRead inc s), hbc, ha, hv]
  rfl

/-- A block compare with the flags of R468. -/
theorem exec_blockCompare {i : Instr} {inc : Word} {repeats : Bool} (hp : programOf i = blockCompare inc repeats)
    (s : State) :
    let v := memAnswer s.hl s
    let bc' := s.bc - 1
    let a := s.regs.a
    let res := a - v
    let h := halfCarry s.cfg (decide (a.toNat % 16 < v.toNat % 16))
    let n := BitVec.ofInt 8 ((res.toNat : Int) - h.toNat)
    ∃ t f, exec i s = .next t
      ∧ t.arch = (finished (setF f (setHl (s.hl + inc) (setBc bc'
          (setPc (if repeats && bc' != 0 && a != v then s.regs.pc - 2 else s.regs.pc)
            (readBy s.hl s)))))).arch
      ∧ flagS f = res.getLsbD 7 ∧ flagZ f = decide (a = v) ∧ flagH f = h ∧ flagPV f = decide (bc' ≠ 0)
      ∧ flagN f = true ∧ flagC f = flagC s.regs.f
      ∧ (s.cfg.undocFlags = .values → flagY f = n.getLsbD 1 ∧ flagX f = n.getLsbD 3) := by
  obtain ⟨t, ht, harch⟩ := finishesAs_blockCompare hp s
  exact ⟨t, _, ht, harch, cpblock_flags ..⟩

end Sys2Proof.Machine

namespace Sys2Proof.Settled

open Machine

/-- Settles O41: the four instructions are `blockLoad` up or down, once or repeating. -/
theorem blockLoad : Obligations.BlockLoad := fun s =>
  ⟨exec_blockLoad (i := .ldi) rfl s, exec_blockLoad (i := .ldd) rfl s, exec_blockLoad (i := .ldir) rfl s,
    exec_blockLoad (i := .lddr) rfl s⟩

/-- Settles O42: the four instructions are `blockCompare` up or down, once or repeating. -/
theorem blockCompare : Obligations.BlockCompare := fun s =>
  ⟨exec_blockCompare (i := .cpi) rfl s, exec_blockCompare (i := .cpd) rfl s, exec_blockCompare (i := .cpir) rfl s,
    exec_blockCompare (i := .cpdr) rfl s⟩

end Sys2Proof.Settled
end

section
/-! PROOFS. The reset pulse (spec/70_reset_and_hazards.md R850 to R853). -/

namespace Sys2Proof.Machine

/-- A state with the reset counter at `n`. -/
def withResetCount (n : Nat) (s : State) : State := { s with resetCount := n }

@[simp] theorem withResetCount_resetLow (n : Nat) (s : State) : (withResetCount n s).resetLow = s.resetLow := rfl
@[simp] theorem withResetCount_resetCount (n : Nat) (s : State) : (withResetCount n s).resetCount = n := rfl
@[simp] theorem withResetCount_self (s : State) : withResetCount s.resetCount s = s := rfl
@[simp] theorem withResetCount_withResetCount (m n : Nat) (s : State) :
    withResetCount m (withResetCount n s) = withResetCount m s := rfl

/-! ### The level of RESET -/

@[simp] theorem assertReset_resetLow (s : State) : (assertReset s).resetLow = true := rfl
@[simp] theorem assertReset_resetCount (s : State) : (assertReset s).resetCount = 0 := rfl

theorem setReset_assert {s : State} (h : s.resetLow = false) : setReset true s = assertReset s := by
  simp [setReset, h]

theorem setReset_release {s : State} (h : s.resetLow = true) : setReset false s = releaseReset s := by
  simp [setReset, h]

/-! ### Edges while RESET is asserted -/

theorem tick_rising_of_resetLow {s : State} (h : s.resetLow = true) :
    tick .rising s = withResetCount (min (s.resetCount + 1) 3) s := by
  simp [tick, h, withResetCount]

theorem tick_falling_of_resetLow {s : State} (h : s.resetLow = true) : tick .falling s = s := by
  simp [tick, h]

/-- While RESET is asserted, edges do nothing but count the rising ones, up to 3 (R852). -/
theorem ticks_of_resetLow (edges : List Edge) {s : State} (hlow : s.resetLow = true) (hcount : s.resetCount ≤ 3) :
    ticks edges s = withResetCount (min (s.resetCount + edges.count .rising) 3) s := by
  induction edges generalizing s with
  | nil => simp [ticks, Nat.min_eq_left hcount]
  | cons e es ih =>
    cases e with
    | rising =>
      have hmin : min (min (s.resetCount + 1) 3 + es.count .rising) 3
          = min (s.resetCount + (es.count .rising + 1)) 3 := by omega
      rw [ticks, tick_rising_of_resetLow hlow, ih ((withResetCount_resetLow ..).trans hlow) (Nat.min_le_right ..),
        withResetCount_withResetCount, withResetCount_resetCount, hmin, List.count_cons_self]
    | falling =>
      rw [ticks, tick_falling_of_resetLow hlow, ih hlow hcount, List.count_cons_of_ne (by decide)]

end Sys2Proof.Machine

namespace Sys2Proof.Settled

open Machine

/-- Settles O57: the assertion starts the counter at 0, the edges only count, and the release compares the count with
3, which bounding it by 3 does not change. -/
theorem resetPulse : Obligations.ResetPulse := by
  intro s edges hhigh
  have hpulse : ticks edges (assertReset s) = withResetCount (min (edges.count .rising) 3) (assertReset s) := by
    simpa using ticks_of_resetLow edges (assertReset_resetLow s) (by simp)
  have hvalid : 3 ≤ min (edges.count .rising) 3 ↔ 3 ≤ edges.count .rising := by omega
  rw [setReset_assert hhigh, hpulse, setReset_release (by simp)]
  simp [releaseReset, withResetCount, hvalid]

end Sys2Proof.Settled
end

section
/-! PROOFS. The decoder and the encoder agree (spec/30_encoding.md R300 to R325). -/

namespace Sys2Proof

open Machine Laws.Unit

/-! ### The fields of an opcode -/

/-- A case split on a 3-bit field of an opcode. -/
theorem octalCases {motive : BitVec 3 → Prop} (y0 : motive 0) (y1 : motive 1) (y2 : motive 2) (y3 : motive 3)
    (y4 : motive 4) (y5 : motive 5) (y6 : motive 6) (y7 : motive 7) (y : BitVec 3) : motive y := by
  have h : ∀ y : BitVec 3, y = 0 ∨ y = 1 ∨ y = 2 ∨ y = 3 ∨ y = 4 ∨ y = 5 ∨ y = 6 ∨ y = 7 := by decide
  rcases h y with rfl | rfl | rfl | rfl | rfl | rfl | rfl | rfl <;> assumption

/-- A case split on the 2-bit field x of an opcode, the others left free. -/
theorem opcodeCases {motive : Byte → Prop} (x0 : ∀ y z, motive (mkOp 0 y z)) (x1 : ∀ y z, motive (mkOp 1 y z))
    (x2 : ∀ y z, motive (mkOp 2 y z)) (x3 : ∀ y z, motive (mkOp 3 y z)) (op : Byte) : motive op := by
  have hop : ∀ op : Byte, mkOp (opX op) (opY op) (opZ op) = op := by decide
  have hx : ∀ x : BitVec 2, x = 0 ∨ x = 1 ∨ x = 2 ∨ x = 3 := by decide
  rw [← hop op]
  rcases hx (opX op) with h | h | h | h <;> rw [h]
  · exact x0 ..
  · exact x1 ..
  · exact x2 ..
  · exact x3 ..

/-! ### The rows of the tables -/

/-- `i` has an encoding, in which its unit is `bytes`, read under the latch `l`. -/
def EncodesAs (l : Latch) (i : Instr) (bytes : List Byte) : Prop :=
  wellFormed i = true ∧ encodeUnit i = bytes ∧ latchOf i = l

/-- A 16-bit operand is encoded low byte first. -/
theorem EncodesAs.word {l : Latch} {i : Instr} {op b1 b2 : Byte}
    (h : EncodesAs l i [op, lo8 (mk16 b2 b1), hi8 (mk16 b2 b1)]) : EncodesAs l i [op, b1, b2] := by
  rwa [lo8_mk16, hi8_mk16] at h

theorem encodesAs_decodeX0 (y z : BitVec 3) (b1 b2 : Byte) :
    EncodesAs .none (decodeX0 (mkOp 0 y z) b1 b2) ([mkOp 0 y z, b1, b2].take (1 + baseOperands (mkOp 0 y z))) := by
  cases z using octalCases with
  | y0 | y3 | y4 | y5 | y6 | y7 => cases y using octalCases <;> exact ⟨rfl, rfl, rfl⟩
  | y1 =>
    cases y using octalCases with
    | y0 | y2 | y4 | y6 => exact .word ⟨rfl, rfl, rfl⟩
    | y1 | y3 | y5 | y7 => exact ⟨rfl, rfl, rfl⟩
  | y2 =>
    cases y using octalCases with
    | y0 | y1 | y2 | y3 => exact ⟨rfl, rfl, rfl⟩
    | y4 | y5 | y6 | y7 => exact .word ⟨rfl, rfl, rfl⟩

theorem encodesAs_decodeX1 (y z : BitVec 3) : EncodesAs .none (decodeX1 (mkOp 1 y z)) [mkOp 1 y z] := by
  cases z using octalCases <;> cases y using octalCases <;> exact ⟨rfl, rfl, rfl⟩

theorem encodesAs_alu (y z : BitVec 3) :
    EncodesAs .none (if z = 6 then aluMemory y else aluRegister y (regAt z)) [mkOp 2 y z] := by
  cases z using octalCases <;> cases y using octalCases <;> exact ⟨rfl, rfl, rfl⟩

/-- The two rows of 0xDD, and of 0xFD: a prefix is told from a prefix without effect by the byte after it. -/
theorem encodesAs_xyPrefix (b1 : Byte) :
    EncodesAs .none (if xyIneffective b1 then .ddNoEffect b1 else .ddPrefix) [0xDD#8]
      ∧ EncodesAs .none (if xyIneffective b1 then .fdNoEffect b1 else .fdPrefix) [0xFD#8] := by
  cases h : xyIneffective b1 with
  | false => exact ⟨⟨rfl, rfl, rfl⟩, ⟨rfl, rfl, rfl⟩⟩
  | true => exact ⟨⟨h, rfl, rfl⟩, ⟨h, rfl, rfl⟩⟩

theorem encodesAs_decodeX3 (y z : BitVec 3) (b1 b2 : Byte) :
    EncodesAs .none (decodeX3 (mkOp 3 y z) b1 b2) ([mkOp 3 y z, b1, b2].take (1 + baseOperands (mkOp 3 y z))) := by
  cases z using octalCases with
  | y0 | y1 | y6 | y7 => cases y using octalCases <;> exact ⟨rfl, rfl, rfl⟩
  | y2 | y4 => cases y using octalCases <;> exact .word ⟨rfl, rfl, rfl⟩
  | y3 =>
    cases y using octalCases with
    | y0 => exact .word ⟨rfl, rfl, rfl⟩
    | y1 | y2 | y3 | y4 | y5 | y6 | y7 => exact ⟨rfl, rfl, rfl⟩
  | y5 =>
    cases y using octalCases with
    | y0 | y2 | y4 | y5 | y6 => exact ⟨rfl, rfl, rfl⟩
    | y1 => exact .word ⟨rfl, rfl, rfl⟩
    | y3 => exact (encodesAs_xyPrefix b1).1
    | y7 => exact (encodesAs_xyPrefix b1).2

theorem encodesAs_decodeBase (op b1 b2 : Byte) :
    EncodesAs .none (decodeBase op b1 b2) ([op, b1, b2].take (1 + baseOperands op)) := by
  cases op using opcodeCases with
  | x0 y z => simpa [decodeBase, opX_mkOp] using encodesAs_decodeX0 y z b1 b2
  | x1 y z => simpa [decodeBase, baseOperands, opX_mkOp] using encodesAs_decodeX1 y z
  | x2 y z => simpa [decodeBase, baseOperands, opX_mkOp, opY_mkOp, opZ_mkOp] using encodesAs_alu y z
  | x3 y z => simpa [decodeBase, opX_mkOp] using encodesAs_decodeX3 y z b1 b2

theorem encodesAs_decodeCb (op : Byte) : EncodesAs .cb (decodeCb op) [op] := by
  unfold EncodesAs
  revert op
  decide

/-- The bytes of an ED unit after its first. -/
theorem operandCount_ed (op : Byte) : operandCount .ed op = if opX op = 1 ∧ opZ op = 3 then 2 else 0 := by
  simp [operandCount]

theorem encodesAs_decodeEd1 (y z : BitVec 3) (b1 b2 : Byte) :
    EncodesAs .ed (decodeEd1 (mkOp 1 y z) b1 b2) ([mkOp 1 y z, b1, b2].take (1 + operandCount .ed (mkOp 1 y z))) := by
  cases z using octalCases with
  | y0 | y1 | y2 | y4 | y5 | y6 | y7 => cases y using octalCases <;> exact ⟨rfl, rfl, rfl⟩
  | y3 => cases y using octalCases <;> exact .word ⟨rfl, rfl, rfl⟩

/-- The blocks and the invalid opcodes of the ED table have no operands. -/
theorem encodesAs_decodeEd_short (op b1 b2 : Byte) (hx : opX op ≠ 1) :
    EncodesAs .ed (decodeEd op b1 b2) [op] := by
  have h : decodeEd op b1 b2 = if edInvalid op then .noni op else decodeBlock (opY op) (opZ op) := by
    simp only [decodeEd, if_neg hx]
  rw [h]
  clear h
  unfold EncodesAs
  revert op
  decide

theorem encodesAs_decodeEd (op b1 b2 : Byte) :
    EncodesAs .ed (decodeEd op b1 b2) ([op, b1, b2].take (1 + operandCount .ed op)) := by
  cases op using opcodeCases with
  | x1 y z => simpa [decodeEd, edInvalid, opX_mkOp] using encodesAs_decodeEd1 y z b1 b2
  | x0 y z | x2 y z | x3 y z =>
    simpa [operandCount, opX_mkOp] using encodesAs_decodeEd_short (mkOp _ y z) b1 b2 (by simp [opX_mkOp])

/-! ### The DD/FD and the DDCB/FDCB tables -/

/-- The latch of an index register's table. -/
def xyLatch (xy : XY) : Latch := match xy with | .ix => .dd | .iy => .fd

/-- The latch of an index register's CB table. -/
def xyCbLatch (xy : XY) : Latch := match xy with | .ix => .ddcb | .iy => .fdcb

theorem operandCount_xyLatch (xy : XY) (op : Byte) :
    operandCount (xyLatch xy) op = if takesDisplacement op then baseOperands op + 1 else baseOperands op := by
  cases xy <;> rfl

/-- The bytes of a unit under DD or FD. -/
def xyUnit (op b1 b2 : Byte) : List Byte :=
  [op, b1, b2].take (1 + if takesDisplacement op then baseOperands op + 1 else baseOperands op)

theorem encodesAs_decodeXy_x0 (xy : XY) (y z : BitVec 3) (b1 b2 : Byte) (h : xyIneffective (mkOp 0 y z) = false) :
    EncodesAs (xyLatch xy) (decodeXy xy (mkOp 0 y z) b1 b2) (xyUnit (mkOp 0 y z) b1 b2) := by
  cases z using octalCases with
  | y0 | y7 => exact absurd h (by revert y; decide)
  | y1 =>
    obtain rfl | rfl | rfl | rfl | rfl : y = 4 ∨ y = 1 ∨ y = 3 ∨ y = 5 ∨ y = 7 := by revert y; decide
    · cases xy <;> exact .word ⟨rfl, rfl, rfl⟩
    all_goals cases xy <;> exact ⟨rfl, rfl, rfl⟩
  | y2 =>
    obtain rfl | rfl : y = 4 ∨ y = 5 := by revert y; decide
    all_goals cases xy <;> exact .word ⟨rfl, rfl, rfl⟩
  | y3 =>
    obtain rfl | rfl : y = 4 ∨ y = 5 := by revert y; decide
    all_goals cases xy <;> exact ⟨rfl, rfl, rfl⟩
  | y4 | y5 | y6 =>
    obtain rfl | rfl | rfl : y = 4 ∨ y = 5 ∨ y = 6 := by revert y; decide
    all_goals cases xy <;> exact ⟨rfl, rfl, rfl⟩

/-- A load between registers under a prefix names a half of the index register. -/
theorem encodesAs_ldRRXyHalves (xy : XY) (y z : BitVec 3) (hy : y ≠ 6) (hz : z ≠ 6)
    (h : xyIneffective (mkOp 1 y z) = false) :
    EncodesAs (xyLatch xy) (pick xy (.ldRRIxHalves (regAt y) (regAt z)) (.ldRRIyHalves (regAt y) (regAt z)))
      [mkOp 1 y z] := by
  unfold EncodesAs
  cases xy <;> revert y z <;> decide

theorem encodesAs_decodeXy_x1 (xy : XY) (y z : BitVec 3) (b1 b2 : Byte) (h : xyIneffective (mkOp 1 y z) = false) :
    EncodesAs (xyLatch xy) (decodeXy xy (mkOp 1 y z) b1 b2) (xyUnit (mkOp 1 y z) b1 b2) := by
  by_cases hz : z = 6
  · subst hz
    cases y using octalCases with
    | y6 => exact absurd h (by decide)
    | y0 | y1 | y2 | y3 | y4 | y5 | y7 => cases xy <;> exact ⟨rfl, rfl, rfl⟩
  · by_cases hy : y = 6
    · subst hy
      cases z using octalCases with
      | y6 => exact absurd rfl hz
      | y0 | y1 | y2 | y3 | y4 | y5 | y7 => cases xy <;> exact ⟨rfl, rfl, rfl⟩
    · have hd : takesDisplacement (mkOp 1 y z) = false := by
        simp only [takesDisplacement, opX_mkOp, opY_mkOp, opZ_mkOp, beq_false_of_ne hy, beq_false_of_ne hz]; rfl
      have hrow := encodesAs_ldRRXyHalves xy y z hy hz h
      simp only [decodeXy, xyUnit, hd, baseOperands, opX_mkOp, opY_mkOp, opZ_mkOp, if_neg hy, if_neg hz]
      exact hrow

theorem encodesAs_decodeXy_x2 (xy : XY) (y z : BitVec 3) (b1 b2 : Byte) (h : xyIneffective (mkOp 2 y z) = false) :
    EncodesAs (xyLatch xy) (decodeXy xy (mkOp 2 y z) b1 b2) (xyUnit (mkOp 2 y z) b1 b2) := by
  obtain rfl | rfl | rfl : z = 4 ∨ z = 5 ∨ z = 6 := by revert y z; decide
  all_goals cases y using octalCases <;> cases xy <;> exact ⟨rfl, rfl, rfl⟩

theorem encodesAs_decodeXy_x3 (xy : XY) (y z : BitVec 3) (b1 b2 : Byte) (h : xyIneffective (mkOp 3 y z) = false) :
    EncodesAs (xyLatch xy) (decodeXy xy (mkOp 3 y z) b1 b2) (xyUnit (mkOp 3 y z) b1 b2) := by
  obtain ⟨rfl, rfl⟩ | ⟨rfl, rfl⟩ | ⟨rfl, rfl⟩ | ⟨rfl, rfl⟩ | ⟨rfl, rfl⟩ | ⟨rfl, rfl⟩ :
      y = 4 ∧ z = 1 ∨ y = 4 ∧ z = 3 ∨ y = 4 ∧ z = 5 ∨ y = 5 ∧ z = 1 ∨ y = 7 ∧ z = 1 ∨ y = 1 ∧ z = 3 := by
    revert y z; decide
  all_goals cases xy <;> exact ⟨rfl, rfl, rfl⟩

theorem encodesAs_decodeXy (xy : XY) (op b1 b2 : Byte) (h : xyIneffective op = false) :
    EncodesAs (xyLatch xy) (decodeXy xy op b1 b2) (xyUnit op b1 b2) := by
  cases op using opcodeCases with
  | x0 y z => exact encodesAs_decodeXy_x0 xy y z b1 b2 h
  | x1 y z => exact encodesAs_decodeXy_x1 xy y z b1 b2 h
  | x2 y z => exact encodesAs_decodeXy_x2 xy y z b1 b2 h
  | x3 y z => exact encodesAs_decodeXy_x3 xy y z b1 b2 h

theorem encodesAs_decodeXyCb (xy : XY) (d op : Byte) :
    EncodesAs (xyCbLatch xy) (decodeXyCb xy d op) [d, op] := by
  cases op using opcodeCases with
  | x0 y z | x2 y z | x3 y z =>
    cases z using octalCases <;> cases y using octalCases <;> cases xy <;> exact ⟨rfl, rfl, rfl⟩
  | x1 y z => cases xy <;> simp [decodeXyCb, opX_mkOp, opY_mkOp, opZ_mkOp, pick] <;> exact ⟨rfl, rfl, rfl⟩

/-! ### Units -/

/-- A prefix without effect leaves the byte after it to the unprefixed table. -/
def effectiveLatch (l : Latch) (b0 : Byte) : Latch :=
  match l with
  | .dd | .fd => if xyIneffective b0 then .none else l
  | .none | .cb | .ed | .ddcb | .fdcb => l

/-- Only an opcode that a DD/FD prefix changes has a displacement. -/
theorem takesDisplacement_of_ineffective {op : Byte} (h : xyIneffective op = true) : takesDisplacement op = false := by
  revert op; decide

theorem encodesAs_decodeUnit_xy (xy : XY) (b0 b1 b2 : Byte) :
    EncodesAs (effectiveLatch (xyLatch xy) b0) (decodeUnit (xyLatch xy) b0 b1 b2)
      ([b0, b1, b2].take (1 + operandCount (xyLatch xy) b0)) := by
  rw [operandCount_xyLatch]
  cases h : xyIneffective b0 with
  | true =>
    have hbase := encodesAs_decodeBase b0 b1 b2
    cases xy <;> simpa [effectiveLatch, xyLatch, decodeUnit, h, takesDisplacement_of_ineffective h] using hbase
  | false =>
    have hxy := encodesAs_decodeXy xy b0 b1 b2 h
    cases xy <;> simpa [effectiveLatch, xyLatch, decodeUnit, h, xyUnit] using hxy

/-- Every unit decodes to an instruction that has it as its encoding. -/
theorem encodesAs_decodeUnit (l : Latch) (b0 b1 b2 : Byte) :
    EncodesAs (effectiveLatch l b0) (decodeUnit l b0 b1 b2) ([b0, b1, b2].take (1 + operandCount l b0)) := by
  cases l with
  | none => exact encodesAs_decodeBase b0 b1 b2
  | cb => exact encodesAs_decodeCb b0
  | ed => exact encodesAs_decodeEd b0 b1 b2
  | dd => exact encodesAs_decodeUnit_xy .ix b0 b1 b2
  | fd => exact encodesAs_decodeUnit_xy .iy b0 b1 b2
  | ddcb => exact encodesAs_decodeXyCb .ix b0 b1
  | fdcb => exact encodesAs_decodeXyCb .iy b0 b1

end Sys2Proof

namespace Sys2Proof.Settled

/-- Settles O8, table by table. -/
theorem encodeOfDecode : Obligations.EncodeOfDecode := fun l b0 b1 b2 =>
  have ⟨hwf, hbytes, _⟩ := encodesAs_decodeUnit l b0 b1 b2
  ⟨hwf, hbytes⟩

end Sys2Proof.Settled
end

section
/-! PROOFS. Decoding an encoded instruction (spec/30_encoding.md R300, R301, R323 to R325). -/

namespace Sys2Proof.Laws.Unit

/-- Every instruction's unit decodes to it. -/
theorem all (i : Instr) : Statement i := by
  cases i
  exacts [djnz _, jr _, jrCc _ _, ldRpNn _ _, addHlRp _, ldAtNnHl _, ldAtNnA _, ldHlAtNn _, ldAAtNn _, incRp _,
    decRp _, incR _, decR _, ldRN _ _, ldAtHlN _, ldRR _ _, ldRAtHl _, ldAtHlR _, addAR _, addAN _, adcAR _, adcAN _,
    subR _, subN _, sbcAR _, sbcAN _, andR _, andN _, xorR _, xorN _, orR _, orN _, cpR _, cpN _, retCc _, popRp2 _,
    jpCcNn _ _, jpNn _, outAtNA _, inAAtN _, callCcNn _ _, pushRp2 _, callNn _, rst _, rlcR _, rrcR _, rlR _, rrR _,
    slaR _, sraR _, sllR _, srlR _, bitR _ _, bitAtHl _, resR _ _, resAtHl _, setR _ _, setAtHl _, inRC _, outCR _,
    sbcHlRp _, adcHlRp _, ldAtNnRp _ _, ldRpAtNn _ _, neg _, retn _, im _, nopEd _, noni _, addIxRp _, ldIxNn _,
    ldAtNnIx _, ldIxAtNn _, incIxHalf _, decIxHalf _, ldIxHalfN _ _, incAtIx _, decAtIx _, ldAtIxN _ _,
    ldRRIxHalves _ _, ldRAtIx _ _, ldAtIxR _ _, addAIxHalf _, addAAtIx _, adcAIxHalf _, adcAAtIx _, subIxHalf _,
    subAtIx _, sbcAIxHalf _, sbcAAtIx _, andIxHalf _, andAtIx _, xorIxHalf _, xorAtIx _, orIxHalf _, orAtIx _,
    cpIxHalf _, cpAtIx _, ddNoEffect _, rlcAtIx _, rlcAtIxR _ _, rrcAtIx _, rrcAtIxR _ _, rlAtIx _, rlAtIxR _ _,
    rrAtIx _, rrAtIxR _ _, slaAtIx _, slaAtIxR _ _, sraAtIx _, sraAtIxR _ _, sllAtIx _, sllAtIxR _ _, srlAtIx _,
    srlAtIxR _ _, bitAtIx _ _ _, resAtIx _ _, resAtIxR _ _ _, setAtIx _ _, setAtIxR _ _ _, addIyRp _, ldIyNn _,
    ldAtNnIy _, ldIyAtNn _, incIyHalf _, decIyHalf _, ldIyHalfN _ _, incAtIy _, decAtIy _, ldAtIyN _ _,
    ldRRIyHalves _ _, ldRAtIy _ _, ldAtIyR _ _, addAIyHalf _, addAAtIy _, adcAIyHalf _, adcAAtIy _, subIyHalf _,
    subAtIy _, sbcAIyHalf _, sbcAAtIy _, andIyHalf _, andAtIy _, xorIyHalf _, xorAtIy _, orIyHalf _, orAtIy _,
    cpIyHalf _, cpAtIy _, fdNoEffect _, rlcAtIy _, rlcAtIyR _ _, rrcAtIy _, rrcAtIyR _ _, rlAtIy _, rlAtIyR _ _,
    rrAtIy _, rrAtIyR _ _, slaAtIy _, slaAtIyR _ _, sraAtIy _, sraAtIyR _ _, sllAtIy _, sllAtIyR _ _, srlAtIy _,
    srlAtIyR _ _, bitAtIy _ _ _, resAtIy _ _, resAtIyR _ _ _, setAtIy _ _, setAtIyR _ _ _, nop, exAfAf, ldAtBcA,
    ldAtDeA, ldAAtBc, ldAAtDe, incAtHl, decAtHl, rlca, rrca, rla, rra, daa, cpl, scf, ccf, halt, addAAtHl, adcAAtHl,
    subAtHl, sbcAAtHl, andAtHl, xorAtHl, orAtHl, cpAtHl, ret, exx, jpHl, ldSpHl, cbPrefix, exAtSpHl, exDeHl, di, ei,
    ddPrefix, edPrefix, fdPrefix, rlcAtHl, rrcAtHl, rlAtHl, rrAtHl, slaAtHl, sraAtHl, sllAtHl, srlAtHl, inFlagsC,
    outC0, reti, ldIA, ldRA, ldAI, ldAR, rrd, rld, ldi, cpi, ini, outi, ldd, cpd, ind, outd, ldir, cpir, inir, otir,
    lddr, cpdr, indr, otdr, incIx, decIx, popIx, exAtSpIx, pushIx, jpIx, ldSpIx, ddCbPrefix, incIy, decIy, popIy,
    exAtSpIy, pushIy, jpIy, ldSpIy, fdCbPrefix]

end Sys2Proof.Laws.Unit

namespace Sys2Proof

open Laws.Unit (opX_mkOp opY_mkOp opZ_mkOp)

/-! ### What follows a unit does not change it -/

/-- The unit of a well-formed instruction, with its lookahead and a filler after it, decodes to it. -/
theorem decodeUnit_encodeUnit {i : Instr} (hwf : WellFormed i) {b0 : Byte} {bs : List Byte}
    (hi : encodeUnit i = b0 :: bs) :
    decodeUnit (latchOf i) b0 ((bs ++ lookahead i).headD 0xCB#8) ((bs ++ lookahead i).getD 1 0) = i := by
  have h := (Laws.Unit.all i hwf).1
  rwa [Laws.Unit.rest, hi] at h

/-- The number of operands of a well-formed instruction's unit. -/
theorem operandCount_encodeUnit {i : Instr} (hwf : WellFormed i) {b0 : Byte} {bs : List Byte}
    (hi : encodeUnit i = b0 :: bs) : operandCount (latchOf i) b0 = bs.length := by
  have h := (Laws.Unit.all i hwf).2
  rwa [hi] at h

/-- An instruction is known by its unit, its latch and its lookahead. -/
theorem eq_of_encodings_eq {i j : Instr} (hi : WellFormed i) (hj : WellFormed j) {b0 : Byte} {bs : List Byte}
    (hiu : encodeUnit i = b0 :: bs) (hju : encodeUnit j = b0 :: bs) (hlatch : latchOf j = latchOf i)
    (hahead : lookahead j = lookahead i) : j = i := by
  rw [← decodeUnit_encodeUnit hi hiu, ← decodeUnit_encodeUnit hj hju, hlatch, hahead]

/-- Only 0xDD and 0xFD, unprefixed, are told apart by the byte after them. -/
theorem lookahead_eq_nil {i : Instr} (h : latchOf i = .none → encodeUnit i ≠ [0xDD#8] ∧ encodeUnit i ≠ [0xFD#8]) :
    lookahead i = [] := by
  unfold lookahead
  split
  · exact absurd rfl (h rfl).1
  · exact absurd rfl (h rfl).2
  · rfl

/-- The latch of a well-formed instruction has effect on its opcode. -/
theorem effectiveLatch_latchOf {i : Instr} (hwf : WellFormed i) {b0 : Byte} {bs : List Byte}
    (hi : encodeUnit i = b0 :: bs) : effectiveLatch (latchOf i) b0 = latchOf i := by
  obtain ⟨-, -, h⟩ :=
    encodesAs_decodeUnit (latchOf i) b0 ((bs ++ lookahead i).headD 0xCB#8) ((bs ++ lookahead i).getD 1 0)
  rw [decodeUnit_encodeUnit hwf hi] at h
  exact h.symm

theorem encodeUnit_eq_cons (i : Instr) : ∃ b0 bs, encodeUnit i = b0 :: bs := by
  cases i <;> exact ⟨_, _, rfl⟩

/-- Two rows have the bytes 0xDD or 0xFD: the prefix, and the prefix without effect. -/
theorem eq_of_encodeUnit_eq_xyPrefix {i : Instr} (hwf : WellFormed i) (hl : latchOf i = .none) :
    (encodeUnit i = [0xDD#8] → i = .ddPrefix ∨ ∃ op, i = .ddNoEffect op)
      ∧ (encodeUnit i = [0xFD#8] → i = .fdPrefix ∨ ∃ op, i = .fdNoEffect op) := by
  have hif {c : Prop} [Decidable c] {k a b : Instr} (h : (if c then a else b) = k) : k = b ∨ k = a := by
    split at h <;> simp [h]
  refine ⟨fun h => ?_, fun h => ?_⟩
  all_goals
    have hdec := decodeUnit_encodeUnit hwf h
    rw [hl] at hdec
    exact (hif hdec).imp id fun h => ⟨_, h⟩

/-- A unit of 0xDD or 0xFD, unprefixed, is decoded with the byte after it. -/
theorem decodeUnit_of_isPrefix_xyPrefix {i : Instr} (hwf : WellFormed i) (hl : latchOf i = .none)
    (hu : encodeUnit i = [0xDD#8] ∨ encodeUnit i = [0xFD#8]) {b0 b1 b2 : Byte}
    (hbytes : encodeUnit i ++ lookahead i <+: [b0, b1, b2])
    (hprefix : i = .ddPrefix ∨ i = .fdPrefix → xyIneffective b1 = false) :
    decodeUnit .none b0 b1 b2 = i := by
  have hdd : decodeUnit .none 0xDD#8 b1 b2 = if xyIneffective b1 then .ddNoEffect b1 else .ddPrefix := rfl
  have hfd : decodeUnit .none 0xFD#8 b1 b2 = if xyIneffective b1 then .fdNoEffect b1 else .fdPrefix := rfl
  obtain ⟨rowsDd, rowsFd⟩ := eq_of_encodeUnit_eq_xyPrefix hwf hl
  rcases hu with hu | hu
  · obtain rfl | ⟨op, rfl⟩ := rowsDd hu
    · obtain rfl : 0xDD#8 = b0 := (List.cons_prefix_cons.1 hbytes).1
      rw [hdd, hprefix (.inl rfl)]; rfl
    · obtain ⟨rfl, h⟩ : 0xDD#8 = b0 ∧ [op] <+: [b1, b2] := List.cons_prefix_cons.1 hbytes
      obtain rfl := (List.cons_prefix_cons.1 h).1
      exact hdd.trans (if_pos hwf)
  · obtain rfl | ⟨op, rfl⟩ := rowsFd hu
    · obtain rfl : 0xFD#8 = b0 := (List.cons_prefix_cons.1 hbytes).1
      rw [hfd, hprefix (.inr rfl)]; rfl
    · obtain ⟨rfl, h⟩ : 0xFD#8 = b0 ∧ [op] <+: [b1, b2] := List.cons_prefix_cons.1 hbytes
      obtain rfl := (List.cons_prefix_cons.1 h).1
      exact hfd.trans (if_pos hwf)

/-- The unit, and the lookahead of a prefix without effect, are all that decoding reads; after a lone 0xDD or 0xFD the
byte that follows must be one it changes. -/
theorem decodeUnit_of_isPrefix {i : Instr} (hwf : WellFormed i) {b0 b1 b2 : Byte}
    (hbytes : encodeUnit i ++ lookahead i <+: [b0, b1, b2])
    (hprefix : i = .ddPrefix ∨ i = .fdPrefix → xyIneffective b1 = false) :
    decodeUnit (latchOf i) b0 b1 b2 = i := by
  by_cases hxy : latchOf i = .none ∧ (encodeUnit i = [0xDD#8] ∨ encodeUnit i = [0xFD#8])
  case pos =>
    rw [hxy.1]
    exact decodeUnit_of_isPrefix_xyPrefix hwf hxy.1 hxy.2 hbytes hprefix
  case neg =>
    obtain ⟨c0, bs, hi⟩ := encodeUnit_eq_cons i
    rw [hi, List.cons_append, List.cons_prefix_cons] at hbytes
    obtain ⟨rfl, hbs⟩ := hbytes
    obtain ⟨hj, hju, hjl⟩ := encodesAs_decodeUnit (latchOf i) c0 b1 b2
    rw [effectiveLatch_latchOf hwf hi] at hjl
    rw [operandCount_encodeUnit hwf hi, Nat.add_comm, List.take_succ_cons,
      ← List.prefix_iff_eq_take.1 ((List.prefix_append ..).trans hbs), ← hi] at hju
    have hnil {k : Instr} (hk : encodeUnit k = encodeUnit i) (hkl : latchOf k = latchOf i) : lookahead k = [] :=
      lookahead_eq_nil fun hl => by simpa [hk, hkl ▸ hl] using hxy
    exact eq_of_encodings_eq hwf hj hi (hju.trans hi) hjl ((hnil hju hjl).trans (hnil rfl rfl).symm)

/-! ### Streams -/

/-- A prefix with effect is followed to the bytes after it. -/
theorem decodeFrom_of_prefixLatch {l l' : Latch} {p b1 : Byte} {bs : List Byte} (hn : operandCount l p = 0)
    (h : ∀ b2, prefixLatch (decodeUnit l p b1 b2) = some l') :
    decodeFrom l (p :: b1 :: bs) = decodeFrom l' (b1 :: bs) := by
  rw [decodeFrom]
  simp only [hn, Nat.not_lt_zero, if_false, List.headD_cons, h, List.isEmpty_cons, Bool.false_eq_true]

/-- A unit that is no prefix with effect, or after which nothing follows, is answered. -/
theorem decodeFrom_of_decodeUnit {l : Latch} {i : Instr} {b0 : Byte} {bs : List Byte}
    (hn : operandCount l b0 ≤ bs.length) (hi : decodeUnit l b0 (bs.headD 0xCB#8) (bs.getD 1 0) = i)
    (h : prefixLatch i = none ∨ bs = []) :
    decodeFrom l (b0 :: bs) = .ok (i, bs.drop (operandCount l b0)) := by
  rw [decodeFrom]
  simp only [Nat.not_lt.2 hn, if_false, hi]
  rcases h with h | rfl
  · simp only [h]
  · cases hl : prefixLatch i <;> simp

/-- Prefix bytes are followed to the unit they prefix. -/
theorem decode_latchBytes (l : Latch) (b0 : Byte) (bs : List Byte) (h : effectiveLatch l b0 = l) :
    decode (latchBytes l ++ b0 :: bs) = decodeFrom l (b0 :: bs) := by
  have heffect (hl : l = .dd ∨ l = .fd) : xyIneffective b0 = false := by
    rcases hl with rfl | rfl <;> simpa [effectiveLatch] using h
  have hdd (b1 b2 : Byte) : decodeUnit .none 0xDD#8 b1 b2 = if xyIneffective b1 then .ddNoEffect b1 else .ddPrefix := rfl
  have hfd (b1 b2 : Byte) : decodeUnit .none 0xFD#8 b1 b2 = if xyIneffective b1 then .fdNoEffect b1 else .fdPrefix := rfl
  cases l with
  | none => rfl
  | cb | ed => exact decodeFrom_of_prefixLatch (l := .none) rfl fun _ => rfl
  | dd => exact decodeFrom_of_prefixLatch (l := .none) rfl fun _ => by rw [hdd, heffect (.inl rfl)]; rfl
  | fd => exact decodeFrom_of_prefixLatch (l := .none) rfl fun _ => by rw [hfd, heffect (.inr rfl)]; rfl
  | ddcb | fdcb =>
    exact (decodeFrom_of_prefixLatch (l := .none) rfl fun _ => rfl).trans (decodeFrom_of_prefixLatch rfl fun _ => rfl)

/-- A unit with its lookahead has at most three bytes. -/
theorem length_unit_le (i : Instr) : (encodeUnit i ++ lookahead i).length ≤ 3 := by
  cases i <;> exact Nat.le_of_ble_eq_true rfl

/-- A prefix with effect is a single byte. -/
theorem prefix_is_one_byte (i : Instr) : prefixLatch i = none ∨ (encodeUnit i).tail ++ lookahead i = [] := by
  cases i with
  | cbPrefix | edPrefix | ddPrefix | fdPrefix | ddCbPrefix | fdCbPrefix => exact .inr rfl
  | _ => exact .inl rfl

/-- The first two bytes of a stream begin with whatever at most two bytes the stream begins with. -/
theorem isPrefix_first_two (bs rest : List Byte) (h : bs.length ≤ 2) (c d : Byte) :
    bs <+: [(bs ++ rest).headD c, (bs ++ rest).getD 1 d] :=
  match bs, h with
  | [], _ => List.nil_prefix
  | [_], _ => ⟨[_], rfl⟩
  | [_, _], _ => List.prefix_rfl

/-- A unit decodes to its instruction, and leaves the bytes after it. -/
theorem decodeFrom_encodeUnit {i : Instr} (hwf : WellFormed i) {b0 : Byte} {bs : List Byte}
    (hi : encodeUnit i = b0 :: bs) (rest : List Byte) (h : prefixLatch i = none ∨ rest = []) :
    decodeFrom (latchOf i) (b0 :: (bs ++ lookahead i ++ rest)) = .ok (i, lookahead i ++ rest) := by
  have hn := operandCount_encodeUnit hwf hi
  have hlen : (bs ++ lookahead i).length ≤ 2 := by
    have hunit := length_unit_le i
    rw [hi, List.cons_append, List.length_cons] at hunit
    exact Nat.le_of_succ_le_succ hunit
  have hend : prefixLatch i = none ∨ bs ++ lookahead i ++ rest = [] := by
    have hone := prefix_is_one_byte i
    rw [hi, List.tail_cons] at hone
    rcases h, hone with ⟨h | rfl, h' | h'⟩ <;> simp [*]
  have hdec : decodeUnit (latchOf i) b0 ((bs ++ lookahead i ++ rest).headD 0xCB#8)
      ((bs ++ lookahead i ++ rest).getD 1 0) = i := by
    refine decodeUnit_of_isPrefix hwf ?bytes fun hp => ?lone
    case bytes =>
      rw [hi, List.cons_append, List.cons_prefix_cons]
      exact ⟨rfl, isPrefix_first_two _ rest hlen _ _⟩
    case lone =>
      have hnone : prefixLatch i ≠ none := by rcases hp with rfl | rfl <;> simp [prefixLatch]
      rw [hend.resolve_left hnone]
      decide
  rw [decodeFrom_of_decodeUnit (by simp [hn]) hdec hend, hn, List.append_assoc, List.drop_left]

end Sys2Proof

namespace Sys2Proof.Settled

/-- Settles O7: the prefix bytes lead to the unit, and the unit decodes to its instruction. -/
theorem decodeOfEncode : Obligations.DecodeOfEncode := by
  intro i rest hwf h
  obtain ⟨b0, bs, hi⟩ := encodeUnit_eq_cons i
  rw [encode, hi, List.append_assoc, List.append_assoc, List.cons_append, ← List.append_assoc bs,
    decode_latchBytes _ _ _ (effectiveLatch_latchOf hwf hi), decodeFrom_encodeUnit hwf hi rest h]

end Sys2Proof.Settled
end

section
/-! PROOFS. Every instruction's steps are one of the shared shapes (spec/40_step_machine.md R411, R415), and its
parameters neither read nor write what a `Blur` changes: WZ, the index and the shadow registers of an instruction that
does not name them, and the edge-level machine's place in a cycle. -/

namespace Sys2Proof.Machine

/-! ### What an instruction's own work does not see -/

/-- A change of WZ, of IX and IY, of the shadow registers, of the pins and the place in a cycle, and a hold and a done
signal that stand already. -/
structure Blur where
  wz     : Word → Word
  index  : Word × Word → Word × Word
  shadow : Word × Word × Word × Word → Word × Word × Word × Word
  pins   : Pins → Pins
  place  : Cycle × Nat × Bool → Cycle × Nat × Bool
  stale  : Bool × Bool

/-- The change that changes nothing. -/
def Blur.none : Blur := ⟨id, id, id, id, id, (false, false)⟩

/-- The registers after the change. -/
def Blur.regs (m : Blur) (g : Regs) : Regs :=
  { g with
    wz := m.wz g.wz
    ix := (m.index (g.ix, g.iy)).1
    iy := (m.index (g.ix, g.iy)).2
    bcShadow := (m.shadow (g.bcShadow, g.deShadow, g.hlShadow, g.afShadow)).1
    deShadow := (m.shadow (g.bcShadow, g.deShadow, g.hlShadow, g.afShadow)).2.1
    hlShadow := (m.shadow (g.bcShadow, g.deShadow, g.hlShadow, g.afShadow)).2.2.1
    afShadow := (m.shadow (g.bcShadow, g.deShadow, g.hlShadow, g.afShadow)).2.2.2 }

/-- The progress after the change. -/
def Blur.seq (m : Blur) (q : Seq) : Seq :=
  { q with
    cycle := (m.place (q.cycle, q.phase, q.ended)).1
    phase := (m.place (q.cycle, q.phase, q.ended)).2.1
    ended := (m.place (q.cycle, q.phase, q.ended)).2.2
    hold := m.stale.1 || q.hold
    done := m.stale.2 || q.done }

/-- The state after the change. -/
def Blur.on (m : Blur) (s : State) : State :=
  { s with regs := m.regs s.regs, seq := m.seq s.seq, pins := m.pins s.pins }

section
variable (m : Blur) (s : State)

@[simp] theorem Blur.on_pc : (m.on s).regs.pc = s.regs.pc := rfl
@[simp] theorem Blur.on_i : (m.on s).regs.i = s.regs.i := rfl
@[simp] theorem Blur.on_r : (m.on s).regs.r = s.regs.r := rfl
@[simp] theorem Blur.on_sp : (m.on s).regs.sp = s.regs.sp := rfl
@[simp] theorem Blur.on_a : (m.on s).regs.a = s.regs.a := rfl
@[simp] theorem Blur.on_f : (m.on s).regs.f = s.regs.f := rfl
@[simp] theorem Blur.on_b : (m.on s).regs.b = s.regs.b := rfl
@[simp] theorem Blur.on_c : (m.on s).regs.c = s.regs.c := rfl
@[simp] theorem Blur.on_l : (m.on s).regs.l = s.regs.l := rfl
@[simp] theorem Blur.on_iff2 : (m.on s).regs.iff2 = s.regs.iff2 := rfl
@[simp] theorem Blur.on_cfg : (m.on s).cfg = s.cfg := rfl
@[simp] theorem Blur.on_draws : (m.on s).draws = s.draws := rfl
@[simp] theorem Blur.on_dataIn : (m.on s).seq.dataIn = s.seq.dataIn := rfl
@[simp] theorem Blur.on_nextData : (m.on s).seq.nextData = s.seq.nextData := rfl
@[simp] theorem Blur.on_bc : (m.on s).bc = s.bc := rfl
@[simp] theorem Blur.on_de : (m.on s).de = s.de := rfl
@[simp] theorem Blur.on_hl : (m.on s).hl = s.hl := rfl
@[simp] theorem Blur.getR_on (r : R8) : getR r (m.on s) = getR r s := by cases r <;> rfl
@[simp] theorem Blur.getRp_on (rp : RP) : getRp rp (m.on s) = getRp rp s := by cases rp <;> rfl
@[simp] theorem Blur.getRp2_on (rp2 : RP2) : getRp2 rp2 (m.on s) = getRp2 rp2 s := by cases rp2 <;> rfl
@[simp] theorem Blur.condition_on (cc : CC) : condition cc (m.on s) = condition cc s := rfl

@[simp] theorem Blur.setBc_on (v : Word) : setBc v (m.on s) = m.on (setBc v s) := rfl
@[simp] theorem Blur.setDe_on (v : Word) : setDe v (m.on s) = m.on (setDe v s) := rfl
@[simp] theorem Blur.setHl_on (v : Word) : setHl v (m.on s) = m.on (setHl v s) := rfl
@[simp] theorem Blur.setPc_on (v : Word) : setPc v (m.on s) = m.on (setPc v s) := rfl
@[simp] theorem Blur.setSp_on (v : Word) : setSp v (m.on s) = m.on (setSp v s) := rfl
@[simp] theorem Blur.setI_on (v : Byte) : setI v (m.on s) = m.on (setI v s) := rfl
@[simp] theorem Blur.setRefresh_on (v : Byte) : setRefresh v (m.on s) = m.on (setRefresh v s) := rfl
@[simp] theorem Blur.setF_on (v : Byte) : setF v (m.on s) = m.on (setF v s) := rfl
@[simp] theorem Blur.setR_on (r : R8) (v : Byte) : setR r v (m.on s) = m.on (setR r v s) := by cases r <;> rfl
@[simp] theorem Blur.setRp_on (rp : RP) (v : Word) : setRp rp v (m.on s) = m.on (setRp rp v s) := by cases rp <;> rfl
@[simp] theorem Blur.setRp2_on (rp2 : RP2) (v : Word) : setRp2 rp2 v (m.on s) = m.on (setRp2 rp2 v s) := by
  cases rp2 <;> rfl
@[simp] theorem Blur.restoreIff_on : restoreIff (m.on s) = m.on (restoreIff s) := rfl
@[simp] theorem Blur.exchangeDeHl_on : exchangeDeHl (m.on s) = m.on (exchangeDeHl s) := rfl
@[simp] theorem Blur.jumpRelative_on (e : Byte) : jumpRelative e (m.on s) = m.on (jumpRelative e s) := rfl
@[simp] theorem Blur.enterHalted_on : enterHalted (m.on s) = m.on (enterHalted s) := rfl
@[simp] theorem Blur.setLatch_on (l : Latch) : setLatch l (m.on s) = m.on (setLatch l s) := rfl
@[simp] theorem Blur.requestOperand_on : requestOperand (m.on s) = m.on (requestOperand s) := rfl
@[simp] theorem Blur.reqRead_on (a : Word) : reqRead a (m.on s) = m.on (reqRead a s) := rfl
@[simp] theorem Blur.reqWrite_on (a : Word) (v : Byte) : reqWrite a v (m.on s) = m.on (reqWrite a v s) := rfl
@[simp] theorem Blur.reqIoRead_on (a : Word) : reqIoRead a (m.on s) = m.on (reqIoRead a s) := rfl
@[simp] theorem Blur.reqIoWrite_on (a : Word) (v : Byte) : reqIoWrite a v (m.on s) = m.on (reqIoWrite a v s) := rfl
@[simp] theorem Blur.reqExec_on (n : Nat) : reqExec n (m.on s) = m.on (reqExec n s) := rfl
@[simp] theorem Blur.reqPushFirst_on (v : Word) : reqPushFirst v (m.on s) = m.on (reqPushFirst v s) := by
  cases h : s.cfg.pushOrder <;> simp [reqPushFirst, h]
@[simp] theorem Blur.reqPushSecond_on (v : Word) : reqPushSecond v (m.on s) = m.on (reqPushSecond v s) := by
  cases h : s.cfg.pushOrder <;> simp [reqPushSecond, h]
@[simp] theorem Blur.reqExchangeFirst_on (v : Word) : reqExchangeFirst v (m.on s) = m.on (reqExchangeFirst v s) := by
  cases h : s.cfg.pushOrder <;> simp [reqExchangeFirst, h]
@[simp] theorem Blur.reqExchangeSecond_on (v : Word) :
    reqExchangeSecond v (m.on s) = m.on (reqExchangeSecond v s) := by
  cases h : s.cfg.pushOrder <;> simp [reqExchangeSecond, h]
@[simp] theorem Blur.holdFor_on (n : Nat) : holdFor n (m.on s) = m.on (holdFor n s) := by
  simp [holdFor, Blur.on, Blur.seq]

theorem Blur.on_done (h : m.stale = (false, false)) : (m.on s).seq.done = s.seq.done := by
  simp [Blur.on, Blur.seq, h]
theorem Blur.settle_on (h : m.stale = (false, false)) : settle (m.on s) = m.on (settle s) := by
  simp [settle, Blur.on, Blur.seq, h]

/-- The requested bus cycle does not see the change either. -/
theorem Blur.busCycle_on (hstale : m.stale = (false, false)) : busCycle (m.on s) = m.on (busCycle s) := by
  have htransact : transact (m.on (settle s)) = m.on (transact (settle s)) := by
    cases h : (settle s).seq.nextCycle <;>
      simp only [transact, h, show (m.on (settle s)).seq.nextCycle = (settle s).seq.nextCycle from rfl] <;> rfl
  unfold busCycle
  rw [Blur.settle_on m s hstale, htransact]
  rfl

@[simp] theorem Blur.raiseUnimplemented_on (code : Word) :
    raiseUnimplemented code (m.on s) = m.on (raiseUnimplemented code s) := by
  cases h : s.cfg.unimplPolicy <;> simp only [raiseUnimplemented, Blur.on_cfg, h] <;> rfl

end

/-! ### A change that leaves the index registers, or the shadow registers, alone -/

section
variable {m : Blur} (s : State)

theorem Blur.getX_on (h : m.index = id) (xy : XY) : getX xy (m.on s) = getX xy s := by
  cases xy <;> simp [getX, Blur.on, Blur.regs, h]
theorem Blur.setX_on (h : m.index = id) (xy : XY) (v : Word) : setX xy v (m.on s) = m.on (setX xy v s) := by
  cases xy <;> simp [setX, Blur.on, Blur.regs, h]
theorem Blur.getHalf_on (h : m.index = id) (xy : XY) (k : Half) : getHalf xy k (m.on s) = getHalf xy k s := by
  cases k <;> simp [getHalf, Blur.getX_on s h]
theorem Blur.setHalf_on (h : m.index = id) (xy : XY) (k : Half) (v : Byte) :
    setHalf xy k v (m.on s) = m.on (setHalf xy k v s) := by
  cases k <;> simp [setHalf, Blur.getX_on s h, Blur.setX_on s h]
theorem Blur.getRX_on (h : m.index = id) (xy : XY) (r : R8) : getRX xy r (m.on s) = getRX xy r s := by
  cases r <;> simp [getRX, Blur.getHalf_on s h]
theorem Blur.setRX_on (h : m.index = id) (xy : XY) (r : R8) (v : Byte) :
    setRX xy r v (m.on s) = m.on (setRX xy r v s) := by
  cases r <;> simp [setRX, Blur.setHalf_on s h]
theorem Blur.getRpX_on (h : m.index = id) (xy : XY) (rp : RP) : getRpX xy rp (m.on s) = getRpX xy rp s := by
  cases rp <;> simp [getRpX, Blur.getX_on s h]
theorem Blur.indexAddress_on (h : m.index = id) (xy : XY) (d : Byte) :
    indexAddress xy d (m.on s) = indexAddress xy d s := by simp [indexAddress, Blur.getX_on s h]

theorem Blur.exchangeAf_on (h : m.shadow = id) : exchangeAf (m.on s) = m.on (exchangeAf s) := by
  simp [exchangeAf, Blur.on, Blur.regs, h, State.af]
theorem Blur.exchangeMain_on (h : m.shadow = id) : exchangeMain (m.on s) = m.on (exchangeMain s) := by
  simp [exchangeMain, Blur.on, Blur.regs, h, State.bc, State.de, State.hl]

end

/-! ### The parameters of a shape -/

/-- A value that does not see the change. -/
def Blind {α : Type} (m : Blur) (get : State → α) : Prop := ∀ s, get (m.on s) = get s

/-- The work of a shape's last step: it does not see the change, and of the progress it changes nothing but, for BIT, a
hold of one T-state. -/
structure Local (m : Blur) (f : StepFn) : Prop where
  comm : ∀ s, f (m.on s) = m.on (f s)
  seq : ∀ s, (f s).seq = s.seq ∨ (f s).seq = { s.seq with hold := true, holdLeft := 2 }

/-- An operation on a byte: a result, put back by the caller, and F. -/
def LocalRmw (m : Blur) (op : Rmw) : Prop :=
  ∀ v, ∃ res f : State → Byte, Blind m res ∧ Blind m f ∧ ∀ put s, op v put s = put (res s) (setF (f s) s)

/-! ### The shapes -/

/-- The steps of LD (X+d),n: the address is formed under the two T-states held after `n`. -/
def writeXyHeld (xy : XY) (d n : Byte) : Program :=
  [ fun s => reqWrite (holdFor 2 (formAddress xy d s)).regs.wz n (holdFor 2 (formAddress xy d s)), signalDone ]

/-- `I4`: a port read and used. -/
def ioReadAt (port : State → Word) (f : Byte → StepFn) : Program :=
  [ fun s => reqIoRead (port s) s, fun s => signalDone (f s.seq.dataIn s) ]

/-- `O4`: a byte driven to a port. -/
def ioWriteAt (port : State → Word) (value : State → Byte) : Program :=
  [ fun s => reqIoWrite (port s) (value s) s, signalDone ]

/-- The shapes of the instructions' steps, the prefix bytes apart, with parameters that do not see the change `m`; a
shape that names an index register needs it left alone. -/
inductive Shaped (m : Blur) : Program → Prop where
  | single {f : StepFn} (hf : Local m f) : Shaped m (single f)
  | singleHold {n : Nat} {f : StepFn} (h0 : 0 < n) (hn : n ≤ 2) (hf : Local m f) : Shaped m (singleHold n f)
  | wide16 {f : StepFn} (hf : Local m f) : Shaped m (wide16 f)
  | readAt {addr : State → Word} {f : Byte → StepFn} (ha : Blind m addr) (hf : ∀ v, Local m (f v)) :
      Shaped m (readAt addr f)
  | writeAt {addr : State → Word} {value : State → Byte} (ha : Blind m addr) (hv : Blind m value) :
      Shaped m (writeAt addr value)
  | ioReadAt {port : State → Word} {f : Byte → StepFn} (hp : Blind m port) (hf : ∀ v, Local m (f v)) :
      Shaped m (ioReadAt port f)
  | ioWriteAt {port : State → Word} {value : State → Byte} (hp : Blind m port) (hv : Blind m value) :
      Shaped m (ioWriteAt port value)
  | readPairAt (nn : Word) {put : Word → StepFn} (hp : ∀ v, Local m (put v)) : Shaped m (readPairAt nn put)
  | writePairAt (nn : Word) {get : State → Word} (hg : Blind m get) : Shaped m (writePairAt nn get)
  | readAtXy (hx : m.index = id) (xy : XY) (d : Byte) {f : Byte → StepFn} (hf : ∀ v, Local m (f v)) :
      Shaped m (readAtXy xy d f)
  | writeAtXy (hx : m.index = id) (xy : XY) (d : Byte) {value : State → Byte} (hv : Blind m value) :
      Shaped m (writeAtXy xy d value)
  | writeXyHeld (hx : m.index = id) (xy : XY) (d n : Byte) : Shaped m (writeXyHeld xy d n)
  | rmwAtHl {op : Rmw} (ho : LocalRmw m op) : Shaped m (rmwAtHl op)
  | rmwAtXy (hx : m.index = id) (xy : XY) (d : Byte) {op : Rmw} (ho : LocalRmw m op) : Shaped m (rmwAtXy xy d op)
  | rmwXyCb (hx : m.index = id) (xy : XY) (d : Byte) (copy : Option R8) {op : Rmw} (ho : LocalRmw m op) :
      Shaped m (rmwXyCb xy d copy op)
  | readXyCb (hx : m.index = id) (xy : XY) (d : Byte) {f : Byte → StepFn} (hf : ∀ v, Local m (f v)) :
      Shaped m (readXyCb xy d f)
  | pushThen {v : State → Word} {after : StepFn} (hv : Blind m v) (ha : Local m after) : Shaped m (pushThen v after)
  | popInto {put : Word → StepFn} (hp : ∀ v, Local m (put v)) : Shaped m (popInto put)
  | exchangeAtSp {get : State → Word} {put : Word → StepFn} (hg : Blind m get) (hp : ∀ v, Local m (put v)) :
      Shaped m (exchangeAtSp get put)
  | digitRotate (memory accumulator : Byte → Byte → Byte) : Shaped m (digitRotate memory accumulator)
  | blockLoad (inc : Word) (repeats : Bool) : Shaped m (blockLoad inc repeats)
  | blockCompare (inc : Word) (repeats : Bool) : Shaped m (blockCompare inc repeats)
  | blockIn (inc : Word) (repeats : Bool) : Shaped m (blockIn inc repeats)
  | blockOut (inc : Word) (repeats : Bool) : Shaped m (blockOut inc repeats)
  | djnz (e : Byte) : Shaped m (progDjnz e)
  | jr (e : Byte) : Shaped m (progJr e)
  | jrCc (cc : JCC) (e : Byte) : Shaped m (progJrCc cc e)
  | retCc (cc : CC) : Shaped m (progRetCc cc)
  | callCcNn (cc : CC) (nn : Word) : Shaped m (progCallCcNn cc nn)

/-- An instruction of the DD, FD, DDCB or FDCB table. -/
def namesIndex (i : Instr) : Bool :=
  match latchOf i with
  | .dd | .fd | .ddcb | .fdcb => true
  | .none | .cb | .ed => false

/-- A prefix byte, also one without effect: its one step sets the latch and signals no done. -/
def onlyLatches (i : Instr) : Bool :=
  match i with
  | .cbPrefix | .edPrefix | .ddPrefix | .fdPrefix | .ddNoEffect _ | .fdNoEffect _ | .ddCbPrefix | .fdCbPrefix => true
  | _ => false

/-- `EX AF,AF'` and `EXX`. -/
def namesShadow (i : Instr) : Bool :=
  match i with
  | .exAfAf | .exx => true
  | _ => false

section
variable {m : Blur}

theorem local_of_seq {f : StepFn} (comm : ∀ s, f (m.on s) = m.on (f s)) (seq : ∀ s, (f s).seq = s.seq) : Local m f :=
  ⟨comm, fun s => .inl (seq s)⟩

theorem local_bitStep (b : BitVec 3) (v : Byte) : Local m (bitStep b v) :=
  ⟨fun s => by simp [bitStep, applyBit], fun _ => .inr rfl⟩

theorem local_alu {get : State → Byte} (hg : Blind m get) (op : AluOp) : Local m (fun s => applyAlu op (get s) s) :=
  local_of_seq (fun s => by simp [applyAlu, hg s]) fun _ => rfl

theorem local_rmw {op : Rmw} (ho : LocalRmw m op) {get : State → Byte} (hg : Blind m get) {put : Byte → StepFn}
    (hp : ∀ v s, put v (m.on s) = m.on (put v s)) (hq : ∀ v s, (put v s).seq = s.seq) :
    Local m (fun s => op (get s) put s) := by
  refine local_of_seq (fun s => ?_) fun s => ?_
  · obtain ⟨res, f, hr, hf, h⟩ := ho (get s)
    simp only [hg s, h, hr s, hf s, Blur.setF_on, hp]
  · obtain ⟨res, f, -, -, h⟩ := ho (get s)
    simp only [h, hq, setF_seq]

theorem localRmw_inc8 : LocalRmw m applyInc8 := fun v =>
  ⟨fun _ => v + 1, fun s => (inc8 s.cfg v s.regs.f).2, fun _ => rfl, fun _ => rfl, fun _ _ => rfl⟩
theorem localRmw_dec8 : LocalRmw m applyDec8 := fun v =>
  ⟨fun _ => v - 1, fun s => (dec8 s.cfg v s.regs.f).2, fun _ => rfl, fun _ => rfl, fun _ _ => rfl⟩
theorem localRmw_rot (k : RotOp) : LocalRmw m (applyRot k) := fun v =>
  ⟨fun s => (rot k v s.regs.f).1, fun s => (rot k v s.regs.f).2, fun _ => rfl, fun _ => rfl, fun _ _ => rfl⟩
theorem localRmw_res (y : BitVec 3) : LocalRmw m (applyRes y) := fun v =>
  ⟨fun _ => resBit y v, fun s => s.regs.f, fun _ => rfl, fun _ => rfl, fun _ _ => rfl⟩
theorem localRmw_set (y : BitVec 3) : LocalRmw m (applySet y) := fun v =>
  ⟨fun _ => setBit y v, fun s => s.regs.f, fun _ => rfl, fun _ => rfl, fun _ _ => rfl⟩

@[simp] theorem setHalf_seq (xy : XY) (k : Half) (v : Byte) (s : State) : (setHalf xy k v s).seq = s.seq := by
  cases k <;> simp [setHalf]
@[simp] theorem setRX_seq (xy : XY) (r : R8) (v : Byte) (s : State) : (setRX xy r v s).seq = s.seq := by
  cases r <;> simp [setRX]
@[simp] theorem setRp_seq (rp : RP) (v : Word) (s : State) : (setRp rp v s).seq = s.seq := by cases rp <;> rfl
@[simp] theorem setRp2_seq (rp2 : RP2) (v : Word) (s : State) : (setRp2 rp2 v s).seq = s.seq := by cases rp2 <;> rfl
@[simp] theorem raiseUnimplemented_seq (code : Word) (s : State) : (raiseUnimplemented code s).seq = s.seq := by
  cases h : s.cfg.unimplPolicy <;> simp [raiseUnimplemented, h]

end

/-- A prefix byte's one step: it sets the latch, and after it the core waits for the bytes of a DDCB/FDCB unit only if
it has requested the first of them. -/
theorem programOf_onlyLatches {i : Instr} (h : onlyLatches i = true) :
    (∃ l, awaitsXyCb l = false ∧ programOf i = [setLatch l])
      ∨ ∃ l, awaitsXyCb l = true ∧ programOf i = [fun s => requestOperand (setLatch l s)] := by
  unfold onlyLatches at h
  split at h
  case h_7 => exact .inr ⟨.ddcb, rfl, rfl⟩
  case h_8 => exact .inr ⟨.fdcb, rfl, rfl⟩
  case h_9 => cases h
  all_goals exact .inl ⟨_, rfl, rfl⟩

theorem length_encodeUnit_onlyLatches {i : Instr} (h : onlyLatches i = true) : (encodeUnit i).length = 1 := by
  unfold onlyLatches at h
  split at h
  case h_9 => cases h
  all_goals rfl

/-- Every other instruction has a shape, with parameters that do not see a change of what it does not name. -/
theorem shaped (m : Blur) (i : Instr) (hprefix : onlyLatches i = false) (hindex : namesIndex i = true → m.index = id)
    (hshadow : namesShadow i = true → m.shadow = id) : Shaped m (programOf i) := by
  cases i with
  | addAR | addAN | adcAR | adcAN | subR | subN | sbcAR | sbcAN | andR | andN | xorR | xorN | orR | orN | cpR | cpN
    =>
    exact .single (local_alu (fun _ => by simp) _)
  | addAIxHalf | adcAIxHalf | subIxHalf | sbcAIxHalf | andIxHalf | xorIxHalf | orIxHalf | cpIxHalf | addAIyHalf |
    adcAIyHalf | subIyHalf | sbcAIyHalf | andIyHalf | xorIyHalf | orIyHalf | cpIyHalf =>
    exact .single (local_alu (fun s => Blur.getHalf_on s (hindex rfl) ..) _)
  | incR =>
    exact .single (local_rmw localRmw_inc8 (fun _ => by simp) (by simp) (by simp))
  | decR =>
    exact .single (local_rmw localRmw_dec8 (fun _ => by simp) (by simp) (by simp))
  | rlcR | rrcR | rlR | rrR | slaR | sraR | sllR | srlR =>
    exact .single (local_rmw (localRmw_rot _) (fun _ => by simp) (by simp) (by simp))
  | incIxHalf | incIyHalf =>
    exact .single (local_rmw localRmw_inc8 (fun s => Blur.getHalf_on s (hindex rfl) ..)
      (fun _ s => Blur.setHalf_on s (hindex rfl) ..) (by simp))
  | decIxHalf | decIyHalf =>
    exact .single (local_rmw localRmw_dec8 (fun s => Blur.getHalf_on s (hindex rfl) ..)
      (fun _ s => Blur.setHalf_on s (hindex rfl) ..) (by simp))
  | exAfAf =>
    exact .single (local_of_seq (fun s => Blur.exchangeAf_on s (hshadow rfl)) fun _ => rfl)
  | exx =>
    exact .single (local_of_seq (fun s => Blur.exchangeMain_on s (hshadow rfl)) fun _ => rfl)
  | rlca | rrca | rla | rra | daa | cpl | scf | ccf | neg =>
    exact .single (local_of_seq (fun _ => rfl) fun _ => rfl)
  | ldRpNn | ldRN | ldRR | jpNn | resR | setR | nopEd | noni | nop | halt | jpHl | exDeHl | di | ei | im =>
    exact .single (local_of_seq (fun _ => by simp) fun _ => by simp)
  | bitR =>
    exact .single (local_of_seq (fun _ => by simp [applyBit]) fun _ => by simp [applyBit])
  | jpCcNn =>
    exact .single (local_of_seq (fun s => by cases h : condition _ s <;> simp [h]) fun s => by split <;> rfl)
  | ldIxNn | ldIxHalfN | ldRRIxHalves | ldIyNn | ldIyHalfN | ldRRIyHalves | jpIx | jpIy =>
    exact .single (local_of_seq (fun _ => by simp [Blur.getX_on _ (hindex rfl), Blur.setX_on _ (hindex rfl),
      Blur.setHalf_on _ (hindex rfl), Blur.getRX_on _ (hindex rfl), Blur.setRX_on _ (hindex rfl)]) fun _ => by simp)
  | incRp =>
    exact .singleHold (f := fun s => setRp _ (getRp _ s + 1) s) Nat.two_pos (Nat.le_refl 2)
      (local_of_seq (fun _ => by simp) fun _ => by simp)
  | decRp =>
    exact .singleHold (f := fun s => setRp _ (getRp _ s - 1) s) Nat.two_pos (Nat.le_refl 2)
      (local_of_seq (fun _ => by simp) fun _ => by simp)
  | ldSpHl =>
    exact .singleHold (f := fun s => setSp s.hl s) Nat.two_pos (Nat.le_refl 2)
      (local_of_seq (fun _ => rfl) fun _ => rfl)
  | ldIA =>
    exact .singleHold (f := fun s => setI s.regs.a s) Nat.one_pos (Nat.le_succ 1)
      (local_of_seq (fun _ => rfl) fun _ => rfl)
  | ldRA =>
    exact .singleHold (f := fun s => setRefresh s.regs.a s) Nat.one_pos (Nat.le_succ 1)
      (local_of_seq (fun _ => rfl) fun _ => rfl)
  | ldAI =>
    exact .singleHold (f := fun s => applySzp s.regs.i s.regs.iff2 (Machine.setR .a s.regs.i s))
      Nat.one_pos (Nat.le_succ 1)
      (local_of_seq (fun _ => rfl) fun _ => rfl)
  | ldAR =>
    exact .singleHold (f := fun s => applySzp s.regs.r s.regs.iff2 (Machine.setR .a s.regs.r s))
      Nat.one_pos (Nat.le_succ 1)
      (local_of_seq (fun _ => rfl) fun _ => rfl)
  | incIx | incIy =>
    exact .singleHold (f := fun s => setX _ (getX _ s + 1) s) Nat.two_pos (Nat.le_refl 2)
      (local_of_seq (fun _ => by simp [Blur.getX_on _ (hindex rfl), Blur.setX_on _ (hindex rfl)]) fun _ => by simp)
  | decIx | decIy =>
    exact .singleHold (f := fun s => setX _ (getX _ s - 1) s) Nat.two_pos (Nat.le_refl 2)
      (local_of_seq (fun _ => by simp [Blur.getX_on _ (hindex rfl), Blur.setX_on _ (hindex rfl)]) fun _ => by simp)
  | ldSpIx | ldSpIy =>
    exact .singleHold (f := fun s => setSp (getX _ s) s) Nat.two_pos (Nat.le_refl 2)
      (local_of_seq (fun _ => by simp [Blur.getX_on _ (hindex rfl)]) fun _ => by simp)
  | addHlRp =>
    exact .wide16 (local_of_seq (fun _ => by simp [applyAdd16]) fun _ => rfl)
  | adcHlRp =>
    exact .wide16 (local_of_seq (fun _ => by simp [applyAdc16]) fun _ => rfl)
  | sbcHlRp =>
    exact .wide16 (local_of_seq (fun _ => by simp [applySbc16]) fun _ => rfl)
  | addIxRp | addIyRp =>
    exact .wide16 (local_of_seq (fun _ => by simp [applyAdd16, Blur.getX_on _ (hindex rfl),
      Blur.getRpX_on _ (hindex rfl), Blur.setX_on _ (hindex rfl)]) fun _ => by simp [applyAdd16])
  | addAAtHl | adcAAtHl | subAtHl | sbcAAtHl | andAtHl | xorAtHl | orAtHl | cpAtHl =>
    exact .readAt (fun _ => rfl) fun _ => local_alu (fun _ => rfl) _
  | ldAAtBc | ldAAtDe | ldAAtNn =>
    exact .readAt (fun _ => rfl) fun _ => local_of_seq (fun _ => rfl) fun _ => rfl
  | ldRAtHl =>
    exact .readAt (fun _ => rfl) fun _ => local_of_seq (fun _ => by simp) fun _ => by simp
  | bitAtHl =>
    exact .readAt (f := bitStep _) (fun _ => rfl) fun _ => local_bitStep ..
  | ldAtNnA | ldAtHlN | ldAtBcA | ldAtDeA =>
    exact .writeAt (fun _ => rfl) fun _ => rfl
  | ldAtHlR =>
    exact .writeAt (fun _ => rfl) fun _ => by simp
  | inAAtN =>
    exact .ioReadAt (port := fun s => mk16 s.regs.a _) (f := Machine.setR .a) (fun _ => rfl)
      fun _ => local_of_seq (fun _ => rfl) fun _ => rfl
  | inRC =>
    exact .ioReadAt (port := State.bc) (f := fun v s => applySzp v (parity v) (Machine.setR _ v s)) (fun _ => rfl)
      fun _ => local_of_seq (fun _ => by simp [applySzp]) fun _ => by simp [applySzp]
  | inFlagsC =>
    exact .ioReadAt (port := State.bc) (f := fun v => applySzp v (parity v)) (fun _ => rfl)
      fun _ => local_of_seq (fun _ => rfl) fun _ => rfl
  | outAtNA =>
    exact .ioWriteAt (port := fun s => mk16 s.regs.a _) (value := fun s => s.regs.a) (fun _ => rfl) fun _ => rfl
  | outCR =>
    exact .ioWriteAt (port := State.bc) (value := getR _) (fun _ => rfl) fun _ => by simp
  | outC0 =>
    exact .ioWriteAt (port := State.bc) (value := fun _ => 0x00#8) (fun _ => rfl) fun _ => rfl
  | ldHlAtNn | ldRpAtNn =>
    exact .readPairAt _ fun _ => local_of_seq (fun _ => by simp) fun _ => by simp
  | ldIxAtNn | ldIyAtNn =>
    exact .readPairAt _ fun _ => local_of_seq (fun s => Blur.setX_on s (hindex rfl) ..) fun _ => by simp
  | ldAtNnHl | ldAtNnRp =>
    exact .writePairAt _ fun _ => by simp
  | ldAtNnIx | ldAtNnIy =>
    exact .writePairAt _ fun s => Blur.getX_on s (hindex rfl) _
  | ldRAtIx | ldRAtIy =>
    exact .readAtXy (hindex rfl) _ _ fun _ => local_of_seq (fun _ => by simp) fun _ => by simp
  | addAAtIx | adcAAtIx | subAtIx | sbcAAtIx | andAtIx | xorAtIx | orAtIx | cpAtIx | addAAtIy | adcAAtIy | subAtIy |
    sbcAAtIy | andAtIy | xorAtIy | orAtIy | cpAtIy =>
    exact .readAtXy (hindex rfl) _ _ fun _ => local_alu (fun _ => rfl) _
  | ldAtIxR | ldAtIyR =>
    exact .writeAtXy (hindex rfl) _ _ fun _ => by simp
  | ldAtIxN =>
    exact .writeXyHeld (hindex rfl) .ix _ _
  | ldAtIyN =>
    exact .writeXyHeld (hindex rfl) .iy _ _
  | incAtHl =>
    exact .rmwAtHl localRmw_inc8
  | decAtHl =>
    exact .rmwAtHl localRmw_dec8
  | resAtHl =>
    exact .rmwAtHl (localRmw_res _)
  | setAtHl =>
    exact .rmwAtHl (localRmw_set _)
  | rlcAtHl | rrcAtHl | rlAtHl | rrAtHl | slaAtHl | sraAtHl | sllAtHl | srlAtHl =>
    exact .rmwAtHl (localRmw_rot _)
  | incAtIx | incAtIy =>
    exact .rmwAtXy (hindex rfl) _ _ localRmw_inc8
  | decAtIx | decAtIy =>
    exact .rmwAtXy (hindex rfl) _ _ localRmw_dec8
  | resAtIx | resAtIxR | resAtIy | resAtIyR =>
    exact .rmwXyCb (hindex rfl) _ _ _ (localRmw_res _)
  | setAtIx | setAtIxR | setAtIy | setAtIyR =>
    exact .rmwXyCb (hindex rfl) _ _ _ (localRmw_set _)
  | rlcAtIx | rlcAtIxR | rrcAtIx | rrcAtIxR | rlAtIx | rlAtIxR | rrAtIx | rrAtIxR | slaAtIx | slaAtIxR | sraAtIx |
    sraAtIxR | sllAtIx | sllAtIxR | srlAtIx | srlAtIxR | rlcAtIy | rlcAtIyR | rrcAtIy | rrcAtIyR | rlAtIy | rlAtIyR
    | rrAtIy | rrAtIyR | slaAtIy | slaAtIyR | sraAtIy | sraAtIyR | sllAtIy | sllAtIyR | srlAtIy | srlAtIyR =>
    exact .rmwXyCb (hindex rfl) _ _ _ (localRmw_rot _)
  | bitAtIx =>
    exact .readXyCb (hindex rfl) .ix _ (f := bitStep _) fun _ => local_bitStep ..
  | bitAtIy =>
    exact .readXyCb (hindex rfl) .iy _ (f := bitStep _) fun _ => local_bitStep ..
  | pushRp2 =>
    exact .pushThen (fun _ => by simp) (local_of_seq (fun _ => rfl) fun _ => rfl)
  | pushIx | pushIy =>
    exact .pushThen (fun s => Blur.getX_on s (hindex rfl) _) (local_of_seq (fun _ => rfl) fun _ => rfl)
  | callNn | rst =>
    exact .pushThen (fun _ => rfl) (local_of_seq (fun _ => rfl) fun _ => rfl)
  | popRp2 | ret | retn | reti =>
    exact .popInto fun _ => local_of_seq (fun _ => by simp) fun _ => by simp
  | popIx | popIy =>
    exact .popInto fun _ => local_of_seq (fun s => Blur.setX_on s (hindex rfl) ..) fun _ => by simp
  | exAtSpHl =>
    exact .exchangeAtSp (fun _ => rfl) fun _ => local_of_seq (fun _ => rfl) fun _ => rfl
  | exAtSpIx | exAtSpIy =>
    exact .exchangeAtSp (fun s => Blur.getX_on s (hindex rfl) _)
      fun _ => local_of_seq (fun s => Blur.setX_on s (hindex rfl) ..) fun _ => by simp
  | rrd | rld =>
    exact .digitRotate ..
  | ldi | ldd | ldir | lddr =>
    exact .blockLoad ..
  | cpi | cpd | cpir | cpdr =>
    exact .blockCompare ..
  | ini | ind | inir | indr =>
    exact .blockIn ..
  | outi | outd | otir | otdr =>
    exact .blockOut ..
  | djnz =>
    exact .djnz ..
  | jr =>
    exact .jr ..
  | jrCc =>
    exact .jrCc ..
  | retCc =>
    exact .retCc ..
  | callCcNn =>
    exact .callCcNn ..
  | cbPrefix | ddPrefix | edPrefix | fdPrefix | ddNoEffect | fdNoEffect | ddCbPrefix | fdCbPrefix =>
    cases hprefix

/-! ### A change that leaves WZ alone goes through every run -/

/-- Every step of a program does not see the change. -/
def Commutes (m : Blur) (p : Program) : Prop := ∀ f ∈ p, ∀ s, f (m.on s) = m.on (f s)

section
variable {m : Blur}

theorem commutes_nil : Commutes m [] := nofun

theorem commutes_cons {f : StepFn} {p : Program} (hf : ∀ s, f (m.on s) = m.on (f s)) (hp : Commutes m p) :
    Commutes m (f :: p) := by
  intro g hg
  rcases List.mem_cons.1 hg with rfl | hg
  · exact hf
  · exact hp g hg

/-- A run does not see the change either. -/
theorem runSteps_on (hstale : m.stale = (false, false)) :
    ∀ {p : Program}, Commutes m p → ∀ s, runSteps p (m.on s) = m.on (runSteps p s)
  | [], _, s => Blur.settle_on _ s hstale
  | [f], h, s => by rw [runSteps_last, runSteps_last, h f (by simp), Blur.settle_on _ _ hstale]
  | f :: g :: rest, h, s => by
    rw [runSteps_cons, runSteps_cons, h f (by simp), Blur.on_done _ _ hstale, Blur.settle_on _ _ hstale,
      Blur.busCycle_on _ _ hstale, runSteps_on hstale (fun k hk => h k (List.mem_cons_of_mem _ hk)), apply_ite m.on]

variable (hwz : m.wz = id)
include hwz

theorem Blur.signalDone_on (s : State) : signalDone (m.on s) = m.on (signalDone s) := by
  simp [signalDone, Blur.on, Blur.regs, Blur.seq, hwz]
theorem Blur.on_wz (s : State) : (m.on s).regs.wz = s.regs.wz := by simp [Blur.on, Blur.regs, hwz]
theorem Blur.setWz_on (v : Word) (s : State) : setWz v (m.on s) = m.on (setWz v s) := by
  simp [setWz, Blur.on, Blur.regs, hwz]
theorem Blur.takeLow_on (s : State) : takeLow (m.on s) = m.on (takeLow s) := by
  simp [takeLow, Blur.on_wz hwz, Blur.setWz_on hwz]
theorem Blur.takeHigh_on (s : State) : takeHigh (m.on s) = m.on (takeHigh s) := by
  simp [takeHigh, Blur.on_wz hwz, Blur.setWz_on hwz]
theorem Blur.formAddress_on (hx : m.index = id) (xy : XY) (d : Byte) (s : State) :
    formAddress xy d (m.on s) = m.on (formAddress xy d s) := by
  simp [formAddress, Blur.indexAddress_on s hx, Blur.setWz_on hwz]
theorem Blur.repeatOrDone_on (again : Bool) (s : State) :
    repeatOrDone again (m.on s) = m.on (repeatOrDone again s) := by
  cases again <;> simp [repeatOrDone, Blur.signalDone_on hwz]
theorem Blur.refetch_on (s : State) : refetch (m.on s) = m.on (refetch s) := by
  simp [refetch, Blur.signalDone_on hwz]

theorem commutes_done : Commutes m [signalDone] := commutes_cons (Blur.signalDone_on hwz) commutes_nil

/-- The last step of a shape. -/
theorem commutes_last {g : StepFn} (hg : ∀ s, g (m.on s) = m.on (g s)) : Commutes m [fun s => signalDone (g s)] :=
  commutes_cons (fun s => by simp only [hg, Blur.signalDone_on hwz]) commutes_nil

theorem commutes_pushRest {v : State → Word} {after : StepFn} (hv : Blind m v) (ha : Local m after) :
    Commutes m (pushRest v after) :=
  commutes_cons (fun s => by simp [hv s]) (commutes_last hwz fun s => by simp [ha.comm])

theorem commutes_popRest {put : Word → StepFn} (hp : ∀ v, Local m (put v)) : Commutes m (popRest put) :=
  commutes_cons (fun s => by simp [Blur.takeLow_on hwz])
    (commutes_last hwz fun s => by simp [Blur.on_wz hwz, (hp _).comm])

omit hwz in
theorem LocalRmw.comm {op : Rmw} (ho : LocalRmw m op) (v : Byte) {addr : State → Word} (ha : Blind m addr) (s : State) :
    op v (fun res t => reqWrite (addr t) res t) (m.on s) = m.on (op v (fun res t => reqWrite (addr t) res t) s) := by
  obtain ⟨res, f, hr, hf, h⟩ := ho v
  simp [h, hr s, hf s, ha (setF (f s) s)]

theorem Shaped.commutes {p : Program} (h : Shaped m p) : Commutes m p := by
  cases h with
  | single hf => exact commutes_last hwz hf.comm
  | singleHold h0 hn hf => exact commutes_last hwz fun s => by simp [hf.comm]
  | wide16 hf =>
    exact commutes_cons (Blur.reqExec_on m · 4) (commutes_cons (Blur.reqExec_on m · 3) (commutes_last hwz hf.comm))
  | readAt ha hf =>
    exact commutes_cons (fun s => by simp [ha s]) (commutes_last hwz fun s => by simp [(hf _).comm])
  | writeAt ha hv => exact commutes_cons (fun s => by simp [ha s, hv s]) (commutes_done hwz)
  | ioReadAt hp hf =>
    exact commutes_cons (fun s => by simp [hp s]) (commutes_last hwz fun s => by simp [(hf _).comm])
  | ioWriteAt hp hv => exact commutes_cons (fun s => by simp [hp s, hv s]) (commutes_done hwz)
  | readPairAt nn hp =>
    exact commutes_cons (Blur.reqRead_on m · nn) (commutes_cons (fun s => by simp [Blur.takeLow_on hwz])
      (commutes_last hwz fun s => by simp [Blur.on_wz hwz, (hp _).comm]))
  | writePairAt nn hg =>
    exact commutes_cons (fun s => by simp [hg s]) (commutes_cons (fun s => by simp [hg s]) (commutes_done hwz))
  | readAtXy hx xy d hf =>
    exact commutes_cons (fun s => by simp [Blur.formAddress_on hwz hx]) (commutes_cons
      (fun s => by simp [Blur.on_wz hwz]) (commutes_last hwz fun s => by simp [(hf _).comm]))
  | writeAtXy hx xy d hv =>
    exact commutes_cons (fun s => by simp [Blur.formAddress_on hwz hx]) (commutes_cons
      (fun s => by simp [Blur.on_wz hwz, hv s]) (commutes_done hwz))
  | writeXyHeld hx xy d n =>
    exact commutes_cons (fun s => by simp [Blur.formAddress_on hwz hx, Blur.on_wz hwz]) (commutes_done hwz)
  | rmwAtHl ho =>
    exact commutes_cons (fun s => by simp) (commutes_cons
      (fun s => by simp [ho.comm _ (addr := State.hl) (fun _ => rfl)]) (commutes_done hwz))
  | rmwAtXy hx xy d ho =>
    exact commutes_cons (fun s => by simp [Blur.formAddress_on hwz hx]) (commutes_cons
      (fun s => by simp [Blur.on_wz hwz]) (commutes_cons
      (fun s => by simp [ho.comm _ (addr := fun t => t.regs.wz) (Blur.on_wz hwz)]) (commutes_done hwz)))
  | rmwXyCb hx xy d copy ho =>
    exact commutes_cons (fun s => by simp [Blur.formAddress_on hwz hx, Blur.on_wz hwz]) (commutes_cons
      (fun s => by simp [ho.comm _ (addr := fun t => t.regs.wz) (Blur.on_wz hwz)])
      (commutes_last hwz fun s => by cases copy <;> simp [copyResult]))
  | readXyCb hx xy d hf =>
    exact commutes_cons (fun s => by simp [Blur.formAddress_on hwz hx, Blur.on_wz hwz])
      (commutes_last hwz fun s => by simp [(hf _).comm])
  | pushThen hv ha =>
    exact commutes_cons (fun s => by simp [hv s]) (commutes_pushRest hwz hv ha)
  | popInto hp => exact commutes_cons (fun s => by simp) (commutes_popRest hwz hp)
  | exchangeAtSp hg hp =>
    exact commutes_cons (fun s => by simp) (commutes_cons (fun s => by simp [Blur.takeLow_on hwz])
      (commutes_cons (fun s => by simp [hg s, Blur.takeHigh_on hwz]) (commutes_cons (fun s => by simp [hg s])
      (commutes_last hwz fun s => by simp [Blur.on_wz hwz, (hp _).comm]))))
  | digitRotate memory accumulator =>
    exact commutes_cons (fun s => by simp) (commutes_cons (Blur.reqExec_on m · 4) (commutes_cons (fun s => by simp)
      (commutes_last hwz fun s => by simp [applySzp])))
  | blockLoad inc repeats =>
    exact commutes_cons (fun s => by simp) (commutes_cons (fun s => by simp) (commutes_cons
      (fun s => by simp [Blur.repeatOrDone_on hwz]) (commutes_cons (Blur.refetch_on hwz) commutes_nil)))
  | blockCompare inc repeats =>
    exact commutes_cons (fun s => by simp) (commutes_cons (Blur.reqExec_on m · 5) (commutes_cons
      (fun s => by simp [Blur.repeatOrDone_on hwz]) (commutes_cons (Blur.refetch_on hwz) commutes_nil)))
  | blockIn inc repeats =>
    exact commutes_cons (fun s => by simp) (commutes_cons (fun s => by simp) (commutes_cons
      (fun s => by simp [Blur.repeatOrDone_on hwz]) (commutes_cons (Blur.refetch_on hwz) commutes_nil)))
  | blockOut inc repeats =>
    exact commutes_cons (fun s => by simp) (commutes_cons (fun s => by simp) (commutes_cons
      (fun s => by simp [Blur.repeatOrDone_on hwz]) (commutes_cons (Blur.refetch_on hwz) commutes_nil)))
  | djnz e =>
    refine commutes_cons (fun s => ?_) (commutes_last hwz (Blur.jumpRelative_on m · e))
    simp [Blur.signalDone_on hwz, apply_ite m.on]
  | jr e => exact commutes_cons (Blur.reqExec_on m · 5) (commutes_last hwz (Blur.jumpRelative_on m · e))
  | jrCc cc e =>
    refine commutes_cons (fun s => ?_) (commutes_last hwz (Blur.jumpRelative_on m · e))
    cases h : condition (jumpCondition cc) s <;> simp [Blur.signalDone_on hwz, h]
  | retCc cc =>
    refine commutes_cons (fun s => ?_) (commutes_popRest hwz fun v => local_of_seq (fun _ => rfl) fun _ => rfl)
    cases h : condition cc (holdFor 1 s) <;> simp [Blur.signalDone_on hwz, h]
  | callCcNn cc nn =>
    refine commutes_cons (fun s => ?_) (commutes_pushRest hwz (fun _ => rfl) (local_of_seq (fun _ => rfl) fun _ => rfl))
    cases h : condition cc s <;> simp [Blur.signalDone_on hwz, h]

end

/-- No instruction's step sees a change of what the instruction does not name. -/
theorem commutes_programOf (m : Blur) (hwz : m.wz = id) (i : Instr) (hindex : namesIndex i = true → m.index = id)
    (hshadow : namesShadow i = true → m.shadow = id) : Commutes m (programOf i) := by
  cases h : onlyLatches i
  case false => exact (shaped m i h hindex hshadow).commutes hwz
  case true =>
    obtain ⟨l, -, hp⟩ | ⟨l, -, hp⟩ := programOf_onlyLatches h <;> rw [hp] <;>
      exact commutes_cons (fun _ => rfl) commutes_nil

/-- An instruction does the same whatever the change, and leaves alone what it does not name. -/
theorem exec_on (m : Blur) (hwz : m.wz = id) (hstale : m.stale = (false, false)) (i : Instr)
    (hindex : namesIndex i = true → m.index = id)
    (hshadow : namesShadow i = true → m.shadow = id) (s : State) :
    ∃ t, exec i s = .next t ∧ exec i (m.on s) = .next (m.on t) :=
  ⟨_, exec_eq_run i s, by
    rw [exec_eq_run, Blur.settle_on _ _ hstale, runSteps_on hstale (commutes_programOf m hwz i hindex hshadow)]⟩

end Sys2Proof.Machine
end

section
/-! PROOFS. Every instruction but a prefix byte goes on with bus cycles until it signals done, within the time of the
longest instruction (spec/40_step_machine.md R403 to R405, R411); so every step keeps the invariant. -/

namespace Sys2Proof.Machine

/-! ### What a step does to the progress -/

/-- No hold and no done signal is pending. -/
structure Quiet (s : State) : Prop where
  hold : s.seq.hold = false
  left : s.seq.holdLeft = 0
  done : s.seq.done = false

theorem quiet_settle (s : State) : Quiet (settle s) := ⟨rfl, rfl, rfl⟩

theorem quiet_busCycle (s : State) : Quiet (busCycle s) := by
  unfold busCycle transact
  cases (settle s).seq.nextCycle <;> exact ⟨rfl, rfl, rfl⟩

/-- No hold, or a hold of whole T-states and at most `n` half-phases. -/
def Held (n : Nat) (q : Seq) : Prop :=
  (q.hold = false ∧ q.holdLeft = 0) ∨ (q.hold = true ∧ ∃ k, 0 < k ∧ q.holdLeft = 2 * k ∧ 2 * k ≤ n)

theorem Held.mono {n n' : Nat} {q : Seq} (h : Held n q) (hn : n ≤ n') : Held n' q :=
  h.imp_right fun ⟨hold, k, hk, hl, hkn⟩ => ⟨hold, k, hk, hl, hkn.trans hn⟩

theorem Quiet.held {s : State} (h : Quiet s) : Held 0 s.seq := .inl ⟨h.hold, h.left⟩

theorem held_holdFor {k : Nat} (hk : 0 < k) (s : State) : Held (2 * k) (holdFor k s).seq :=
  .inr ⟨rfl, k, hk, rfl, Nat.le_refl _⟩

/-- The step has signalled done, with a hold of at most `n` half-phases. -/
def Signals (n : Nat) (t : State) : Prop := ∃ u, t = signalDone u ∧ Held n u.seq

theorem Signals.mono {n n' : Nat} {t : State} (h : Signals n t) (hn : n ≤ n') : Signals n' t :=
  let ⟨u, ht, hu⟩ := h; ⟨u, ht, hu.mono hn⟩

theorem Held.signals {n : Nat} {s : State} (h : Held n s.seq) : Signals n (signalDone s) := ⟨s, rfl, h⟩

/-- The half-phases of the requested cycle. -/
def cycleEdges (q : Seq) : Nat :=
  match q.nextCycle with
  | .fetch => 8
  | .read | .write => 6
  | .ioRead | .ioWrite => 8
  | .exec => 2 * q.nextLen

/-- A step that has asked for a hold of at most `n` half-phases or none, and has left alone what tells the step machine
where it is. -/
structure Prepared (n : Nat) (s t : State) : Prop where
  held : Held n t.seq
  done : t.seq.done = false
  step : t.seq.step = s.seq.step
  latch : t.latch = s.latch
  fields : t.fields = s.fields

/-- A step that has requested a cycle other than a FETCH, which with its hold takes at most `n` half-phases. -/
structure Requests (n : Nat) (s t : State) : Prop extends Prepared n s t where
  cycle : t.seq.nextCycle ≠ .fetch
  len : t.seq.nextCycle = .exec → 0 < t.seq.nextLen
  edges : t.seq.holdLeft + cycleEdges t.seq ≤ n

theorem Quiet.prepared {s : State} (h : Quiet s) : Prepared 0 s s := ⟨h.held, h.done, rfl, rfl, rfl⟩

theorem Held.left_le {n : Nat} {q : Seq} (h : Held n q) : q.holdLeft ≤ n := by
  rcases h with ⟨-, h⟩ | ⟨-, k, -, h, hn⟩ <;> omega

section
variable {n : Nat} {s t : State}

/-- Writing registers prepares no less. -/
theorem Prepared.frame {t' : State} (h : Prepared n s t) (seq : t'.seq = t.seq) (latch : t'.latch = t.latch)
    (fields : t'.fields = t.fields) : Prepared n s t' :=
  ⟨seq ▸ h.held, seq ▸ h.done, seq ▸ h.step, latch ▸ h.latch, fields ▸ h.fields⟩

theorem Prepared.formAddress (h : Prepared n s t) (xy : XY) (d : Byte) :
    Prepared n s (Machine.formAddress xy d t) := h.frame rfl rfl rfl
theorem Prepared.takeLow (h : Prepared n s t) : Prepared n s (Machine.takeLow t) := h.frame rfl rfl rfl
theorem Prepared.takeHigh (h : Prepared n s t) : Prepared n s (Machine.takeHigh t) := h.frame rfl rfl rfl
theorem Prepared.setF (h : Prepared n s t) (v : Byte) : Prepared n s (Machine.setF v t) := h.frame rfl rfl rfl
theorem Prepared.setR (h : Prepared n s t) (r : R8) (v : Byte) : Prepared n s (Machine.setR r v t) :=
  h.frame (setR_seq ..) (setR_latch ..) (setR_fields ..)
theorem Prepared.setBc (h : Prepared n s t) (v : Word) : Prepared n s (Machine.setBc v t) := h.frame rfl rfl rfl
theorem Prepared.setDe (h : Prepared n s t) (v : Word) : Prepared n s (Machine.setDe v t) := h.frame rfl rfl rfl
theorem Prepared.setHl (h : Prepared n s t) (v : Word) : Prepared n s (Machine.setHl v t) := h.frame rfl rfl rfl
theorem Prepared.setPc (h : Prepared n s t) (v : Word) : Prepared n s (Machine.setPc v t) := h.frame rfl rfl rfl

theorem Prepared.copyResult (h : Prepared n s t) (copy : Option R8) (v : Byte) :
    Prepared n s (Machine.copyResult copy v t) := by
  cases copy with
  | none => exact h
  | some r => exact h.setR r v

theorem Prepared.holdFor (h : Prepared n s t) (k : Nat) (hk : 0 < k) : Prepared (2 * k) s (Machine.holdFor k t) :=
  ⟨held_holdFor hk t, h.done, h.step, h.latch, h.fields⟩

theorem Prepared.signals (h : Prepared n s t) : Signals n (signalDone t) := h.held.signals

theorem Prepared.reqRead (h : Prepared n s t) (a : Word) : Requests (n + 6) s (Machine.reqRead a t) :=
  ⟨⟨h.held.mono (by omega), h.done, h.step, h.latch, h.fields⟩, nofun, nofun, Nat.add_le_add_right h.held.left_le 6⟩

theorem Prepared.reqWrite (h : Prepared n s t) (a : Word) (v : Byte) : Requests (n + 6) s (Machine.reqWrite a v t) :=
  ⟨⟨h.held.mono (by omega), h.done, h.step, h.latch, h.fields⟩, nofun, nofun, Nat.add_le_add_right h.held.left_le 6⟩

theorem Prepared.reqIoRead (h : Prepared n s t) (a : Word) : Requests (n + 8) s (Machine.reqIoRead a t) :=
  ⟨⟨h.held.mono (by omega), h.done, h.step, h.latch, h.fields⟩, nofun, nofun, Nat.add_le_add_right h.held.left_le 8⟩

theorem Prepared.reqIoWrite (h : Prepared n s t) (a : Word) (v : Byte) :
    Requests (n + 8) s (Machine.reqIoWrite a v t) :=
  ⟨⟨h.held.mono (by omega), h.done, h.step, h.latch, h.fields⟩, nofun, nofun, Nat.add_le_add_right h.held.left_le 8⟩

theorem Prepared.reqExec (h : Prepared n s t) (k : Nat) (hk : 0 < k) :
    Requests (n + 2 * k) s (Machine.reqExec k t) :=
  ⟨⟨h.held.mono (by omega), h.done, h.step, h.latch, h.fields⟩, nofun, fun _ => hk,
    Nat.add_le_add_right h.held.left_le (2 * k)⟩

theorem Prepared.reqPushFirst (h : Prepared n s t) (v : Word) : Requests (n + 6) s (Machine.reqPushFirst v t) := by
  cases hp : t.cfg.pushOrder <;> simp only [Machine.reqPushFirst, hp] <;> exact h.reqWrite ..

theorem Prepared.reqPushSecond (h : Prepared n s t) (v : Word) : Requests (n + 6) s (Machine.reqPushSecond v t) := by
  cases hp : t.cfg.pushOrder <;> simp only [Machine.reqPushSecond, hp] <;> exact h.reqWrite ..

theorem Prepared.reqExchangeFirst (h : Prepared n s t) (v : Word) :
    Requests (n + 6) s (Machine.reqExchangeFirst v t) := by
  cases hp : t.cfg.pushOrder <;> simp only [Machine.reqExchangeFirst, hp] <;> exact h.reqWrite ..

theorem Prepared.reqExchangeSecond (h : Prepared n s t) (v : Word) :
    Requests (n + 6) s (Machine.reqExchangeSecond v t) := by
  cases hp : t.cfg.pushOrder <;> simp only [Machine.reqExchangeSecond, hp] <;> exact h.reqWrite ..

/-- The last step of a shape signals done, BIT with a hold of its own. -/
theorem Local.signals {m : Blur} {f : StepFn} (hf : Local m f) (h : Held n t.seq) (hn : 2 ≤ n) :
    Signals n (signalDone (f t)) := by
  rcases hf.seq t with hq | hq
  · exact Held.signals (hq ▸ h)
  · exact Held.signals (hq ▸ .inr ⟨rfl, 1, by decide, rfl, hn⟩)

/-- A read-modify-write step requests its WRITE. -/
theorem LocalRmw.requests {m : Blur} {op : Rmw} (ho : LocalRmw m op) (h : Prepared n s t) (v : Byte)
    (addr : State → Word) : Requests (n + 6) s (op v (fun res u => Machine.reqWrite (addr u) res u) t) := by
  obtain ⟨res, f, -, -, hop⟩ := ho v
  rw [hop]
  exact (h.setF _).reqWrite ..

end

/-! ### A whole program -/

/-- A program every step of which signals done or requests another cycle, the last one signalling done, all within `n`
half-phases. -/
inductive Paced : Nat → Program → Prop where
  | last {n : Nat} {f : StepFn} (h : ∀ s, Quiet s → Signals n (f s)) : Paced n [f]
  | cons {a n : Nat} {f : StepFn} {p : Program} (h : ∀ s, Quiet s → Signals a (f s) ∨ Requests a s (f s))
      (rest : Paced n p) : Paced (a + n) (f :: p)

theorem Paced.mono {n n' : Nat} {p : Program} (h : Paced n p) (hn : n ≤ n') : Paced n' p := by
  induction h generalizing n' with
  | last h => exact .last fun s hs => (h s hs).mono hn
  | @cons a n f p h rest ih =>
    have hp := Paced.cons h (ih (n' := n' - a) (by omega))
    rwa [show a + (n' - a) = n' by omega] at hp

/-- A step that requests a cycle, then the rest. -/
theorem Paced.request {a n : Nat} {f : StepFn} {p : Program} (h : ∀ s, Quiet s → Requests a s (f s))
    (rest : Paced n p) : Paced (a + n) (f :: p) :=
  .cons (fun s hs => .inr (h s hs)) rest

theorem paced_done : Paced 0 [signalDone] := .last fun _ hs => hs.prepared.signals

theorem Local.paced {m : Blur} {g : State → StepFn} (hg : ∀ s, Local m (g s)) :
    Paced 2 [fun s => signalDone (g s s)] :=
  .last fun s hs => (hg s).signals (hs.held.mono (by decide)) (by decide)

theorem paced_refetch : Paced 0 [refetch] := .last fun _ hs => (hs.prepared.setPc _).signals

/-- The step of a block instruction that counts down, then the repetition. -/
theorem paced_repeatOrDone {k n : Nat} {g : StepFn} {again : State → Bool} {p : Program}
    (hg : ∀ s, Quiet s → Prepared k s (g s)) (rest : Paced n p) :
    Paced (k + 10 + n) ((fun s => repeatOrDone (again s) (g s)) :: p) := by
  refine .cons (fun s hs => ?_) rest
  cases h : again s
  · exact .inl ((hg s hs).signals.mono (by omega))
  · exact .inr ((hg s hs).reqExec 5 (by decide))

theorem paced_pushRest {m : Blur} {v : State → Word} {after : StepFn} (ha : Local m after) :
    Paced 8 (pushRest v after) :=
  .request (a := 6) (n := 2) (fun _ hs => hs.prepared.reqPushSecond _) <| .last fun _ hs =>
    ha.signals (hs.held.mono (by decide)) (by decide)

theorem paced_popRest {m : Blur} {put : Word → StepFn} (hp : ∀ v, Local m (put v)) : Paced 8 (popRest put) :=
  .request (a := 6) (n := 2) (fun _ hs => hs.prepared.takeLow.reqRead _) <| .last fun _ hs =>
    (hp _).signals (hs.held.mono (by decide)) (by decide)

theorem paced_jump (e : Byte) : Paced 0 [fun s => signalDone (jumpRelative e s)] :=
  .last fun _ hs => (hs.prepared.setPc _).signals

/-- Every shape is paced; the longest, `EX (SP),HL`, takes 30 half-phases after its fetch. -/
theorem Shaped.paced {m : Blur} {p : Program} (h : Shaped m p) : Paced 40 p := by
  cases h with
  | single hf => exact (Local.paced fun _ => hf).mono (by decide)
  | singleHold h0 hn hf =>
    exact .last fun s hs => hf.signals ((held_holdFor h0 s).mono (by omega)) (by decide)
  | wide16 hf =>
    exact (Paced.request (fun _ hs => hs.prepared.reqExec 4 (by decide))
      (.request (fun _ hs => hs.prepared.reqExec 3 (by decide)) (Local.paced fun _ => hf))).mono (by decide)
  | readAt ha hf =>
    exact (Paced.request (fun _ hs => hs.prepared.reqRead _) (Local.paced fun _ => hf _)).mono (by decide)
  | writeAt ha hv => exact (Paced.request (fun _ hs => hs.prepared.reqWrite ..) paced_done).mono (by decide)
  | ioReadAt hp hf =>
    exact (Paced.request (fun _ hs => hs.prepared.reqIoRead _) (Local.paced fun _ => hf _)).mono (by decide)
  | ioWriteAt hp hv => exact (Paced.request (fun _ hs => hs.prepared.reqIoWrite ..) paced_done).mono (by decide)
  | readPairAt nn hp =>
    exact (Paced.request (fun _ hs => hs.prepared.reqRead _)
      (.request (fun _ hs => hs.prepared.takeLow.reqRead _) (Local.paced fun _ => hp _))).mono (by decide)
  | writePairAt nn hg =>
    exact (Paced.request (fun _ hs => hs.prepared.reqWrite ..)
      (.request (fun _ hs => hs.prepared.reqWrite ..) paced_done)).mono (by decide)
  | readAtXy hx xy d hf =>
    exact (Paced.request (fun _ hs => (hs.prepared.formAddress ..).reqExec 5 (by decide))
      (.request (fun _ hs => hs.prepared.reqRead _) (Local.paced fun _ => hf _))).mono (by decide)
  | writeAtXy hx xy d hv =>
    exact (Paced.request (fun _ hs => (hs.prepared.formAddress ..).reqExec 5 (by decide))
      (.request (fun _ hs => hs.prepared.reqWrite ..) paced_done)).mono (by decide)
  | writeXyHeld hx xy d n =>
    exact (Paced.request (fun _ hs => ((hs.prepared.formAddress ..).holdFor 2 (by decide)).reqWrite ..)
      paced_done).mono (by decide)
  | rmwAtHl ho =>
    exact (Paced.request (fun _ hs => hs.prepared.reqRead _)
      (.request (fun _ hs => ho.requests (hs.prepared.holdFor 1 (by decide)) _ _) paced_done)).mono (by decide)
  | rmwAtXy hx xy d ho =>
    exact (Paced.request (fun _ hs => (hs.prepared.formAddress ..).reqExec 5 (by decide))
      (.request (fun _ hs => hs.prepared.reqRead _)
        (.request (fun _ hs => ho.requests (hs.prepared.holdFor 1 (by decide)) _ _) paced_done))).mono (by decide)
  | rmwXyCb hx xy d copy ho =>
    exact (Paced.request (fun _ hs => ((hs.prepared.formAddress ..).holdFor 2 (by decide)).reqRead _)
      (.request (fun _ hs => ho.requests (hs.prepared.holdFor 1 (by decide)) _ _)
        (.last fun s hs => (hs.prepared.copyResult ..).signals))).mono (by decide)
  | readXyCb hx xy d hf =>
    exact (Paced.request (fun _ hs => ((hs.prepared.formAddress ..).holdFor 2 (by decide)).reqRead _)
      (Local.paced fun _ => hf _)).mono (by decide)
  | pushThen hv ha =>
    exact (Paced.request (fun _ hs => (hs.prepared.holdFor 1 (by decide)).reqPushFirst _)
      (paced_pushRest ha)).mono (by decide)
  | popInto hp => exact (Paced.request (fun _ hs => hs.prepared.reqRead _) (paced_popRest hp)).mono (by decide)
  | exchangeAtSp hg hp =>
    exact (Paced.request (fun _ hs => hs.prepared.reqRead _)
      (.request (fun _ hs => hs.prepared.takeLow.reqRead _)
      (.request (fun _ hs => (hs.prepared.takeHigh.holdFor 1 (by decide)).reqExchangeFirst _)
      (.request (fun _ hs => hs.prepared.reqExchangeSecond _)
      (.last fun _ hs => (hp _).signals (held_holdFor (k := 2) (by decide) _) (by decide)))))).mono (by decide)
  | digitRotate memory accumulator =>
    exact (Paced.request (fun _ hs => hs.prepared.reqRead _)
      (.request (fun _ hs => hs.prepared.reqExec 4 (by decide))
      (.request (fun _ hs => hs.prepared.reqWrite ..)
      (.last fun _ hs => ((hs.prepared.setR ..).setF _).signals)))).mono (by decide)
  | blockLoad inc repeats =>
    exact (Paced.request (fun _ hs => hs.prepared.reqRead _)
      (.request (fun _ hs => hs.prepared.reqWrite ..)
      (paced_repeatOrDone (fun _ hs => ((((hs.prepared.holdFor 2 (by decide)).setHl _).setDe _).setBc _).setF _)
        paced_refetch))).mono (by decide)
  | blockCompare inc repeats =>
    exact (Paced.request (fun _ hs => hs.prepared.reqRead _)
      (.request (fun _ hs => hs.prepared.reqExec 5 (by decide))
      (paced_repeatOrDone (fun _ hs => ((hs.prepared.setHl _).setBc _).setF _) paced_refetch))).mono (by decide)
  | blockIn inc repeats =>
    exact (Paced.request (fun _ hs => (hs.prepared.holdFor 1 (by decide)).reqIoRead _)
      (.request (fun _ hs => hs.prepared.reqWrite ..)
      (paced_repeatOrDone (fun _ hs => ((hs.prepared.setR ..).setHl _).setF _) paced_refetch))).mono (by decide)
  | blockOut inc repeats =>
    exact (Paced.request (fun _ hs => (hs.prepared.holdFor 1 (by decide)).reqRead _)
      (.request (fun _ hs => (hs.prepared.setR ..).reqIoWrite ..)
      (paced_repeatOrDone (fun _ hs => (hs.prepared.setHl _).setF _) paced_refetch))).mono (by decide)
  | djnz e =>
    refine (Paced.cons (a := 10) (fun s hs => ?_) (paced_jump e)).mono (by decide)
    have h := hs.prepared.setR .b (s.regs.b - 1)
    dsimp only
    split
    · exact .inl (h.signals.mono (by decide))
    · exact .inr (h.reqExec 5 (by decide))
  | jr e =>
    exact (Paced.request (fun _ hs => hs.prepared.reqExec 5 (by decide)) (paced_jump e)).mono (by decide)
  | jrCc cc e =>
    refine (Paced.cons (a := 10) (fun s hs => ?_) (paced_jump e)).mono (by decide)
    split
    · exact .inr (hs.prepared.reqExec 5 (by decide))
    · exact .inl (hs.prepared.signals.mono (by decide))
  | retCc cc =>
    refine (Paced.cons (a := 8) (fun s hs => ?_) (paced_popRest (m := m) (put := setPc)
      fun _ => local_of_seq (fun _ => rfl) fun _ => rfl)).mono (by decide)
    have h := hs.prepared.holdFor 1 (by decide)
    dsimp only
    split
    · exact .inr (h.reqRead _)
    · exact .inl (h.signals.mono (by decide))
  | callCcNn cc nn =>
    refine (Paced.cons (a := 8) (fun s hs => ?_) (paced_pushRest (m := m) (after := setPc nn)
      (local_of_seq (fun _ => rfl) fun _ => rfl))).mono (by decide)
    split
    · exact .inr ((hs.prepared.holdFor 1 (by decide)).reqPushFirst _)
    · exact .inl (hs.prepared.signals.mono (by decide))

/-- A paced program ends in its done signal, with every hold and the signal seen. -/
theorem Paced.runSteps_signals {n : Nat} {p : Program} (h : Paced n p) :
    ∀ s, Quiet s → ∃ u, runSteps p s = settle (signalDone u) := by
  induction h with
  | last h =>
    intro s hs
    obtain ⟨u, hu, -⟩ := h s hs
    exact ⟨u, by rw [runSteps_last, hu]⟩
  | @cons a n f p h rest ih =>
    intro s hs
    obtain ⟨g, p, rfl⟩ : ∃ g q, p = g :: q := by cases rest <;> exact ⟨_, _, rfl⟩
    rw [runSteps_cons]
    rcases h s hs with ⟨u, hu, -⟩ | hr
    · exact ⟨u, by rw [hu]; rfl⟩
    · obtain ⟨u, hu⟩ := ih _ (quiet_busCycle (f s))
      exact ⟨u, by rw [if_neg (by simp [hr.done]), hu]⟩

/-- The steps of an instruction other than a prefix byte. -/
theorem paced_programOf {i : Instr} (h : onlyLatches i = false) : Paced 40 (programOf i) :=
  (shaped Blur.none i h (fun _ => rfl) fun _ => rfl).paced

theorem exec_signals {i : Instr} (h : onlyLatches i = false) (s : State) :
    ∃ u, exec i s = .next (settle (signalDone u)) := by
  obtain ⟨u, hu⟩ := (paced_programOf h).runSteps_signals _ (quiet_settle s)
  exact ⟨u, by rw [exec_eq_run, hu]⟩

theorem onlyLatches_eq_false {i : Instr} (hprefix : prefixLatch i = none)
    (hno : ∀ b, i ≠ .ddNoEffect b ∧ i ≠ .fdNoEffect b) : onlyLatches i = false := by
  cases i with
  | ddNoEffect b => exact absurd rfl (hno b).1
  | fdNoEffect b => exact absurd rfl (hno b).2
  | cbPrefix | edPrefix | ddPrefix | fdPrefix | ddCbPrefix | fdCbPrefix => cases hprefix
  | _ => rfl

/-! ### The invariant -/

/-- The part of the invariant that no step can break. -/
structure Sound (s : State) : Prop where
  mem : s.mem.wf = true
  iff1 : s.regs.iff1 = false
  iff2 : s.regs.iff2 = false
  resetCount : s.resetCount ≤ 3

theorem State.Inv.sound {s : State} (h : s.Inv) : Sound s :=
  let ⟨mem, iff1, iff2, count, _⟩ := h; ⟨mem, iff1, iff2, count⟩

theorem Sound.inv {s : State} (h : Sound s) (hh : s.halted = true → s.seq.step = 0 ∧ s.latch = .none) : s.Inv :=
  ⟨h.mem, h.iff1, h.iff2, h.resetCount, hh⟩

section
variable {s t : State}

theorem Keeps.sound (h : Keeps s t) (hs : Sound s) : Sound t where
  mem := h.mem ▸ hs.mem
  iff1 := h.iff1.elim (·.trans hs.iff1) (·.trans hs.iff2)
  iff2 := h.iff2.trans hs.iff2
  resetCount := h.resetCount ▸ hs.resetCount

theorem StepKeeps.sound (h : StepKeeps s t) (hs : Sound s) : Sound t :=
  let hk := h.1.sound hs; ⟨hk.mem, hk.iff1, hk.iff2, hk.resetCount⟩

theorem Sound.frame (hs : Sound s) (mem : t.mem = s.mem) (regs : t.regs = s.regs)
    (count : t.resetCount = s.resetCount) : Sound t :=
  ⟨mem ▸ hs.mem, regs ▸ hs.iff1, regs ▸ hs.iff2, count ▸ hs.resetCount⟩

theorem Sound.storeMemory (hs : Sound s) (a : Word) (v : Byte) : Sound (Machine.storeMemory a v s) :=
  ⟨Memory.wf_write a v hs.mem, hs.iff1, hs.iff2, hs.resetCount⟩

theorem Sound.transact (hs : Sound s) : Sound (Machine.transact s) := by
  unfold Machine.transact
  split
  case h_3 => exact hs.storeMemory ..
  all_goals exact hs.frame rfl rfl rfl

theorem Sound.busCycle (hs : Sound s) : Sound (Machine.busCycle s) :=
  (Sound.transact (hs.frame (t := settle s) rfl rfl rfl)).frame rfl rfl rfl

theorem Sound.runSteps (hs : Sound s) (i : Instr) : Sound (Machine.runSteps (programOf i) s) :=
  runSteps_keeps (fun s t => Sound s → Sound t) (fun h h' hs => h' (h hs)) (fun _ hs => hs.frame rfl rfl rfl)
    (fun _ hs => hs.busCycle) _ s (fun f hf u => (programOf_keeps i f hf u).sound) hs

end

end Sys2Proof.Machine

namespace Sys2Proof.Settled
open Machine

/-- Settles O49: every shape is paced, so its run ends in its done signal. -/
theorem instructionsEndDone : Obligations.InstructionsEndDone := by
  intro i s hprefix hno
  obtain ⟨u, hu⟩ := exec_signals (onlyLatches_eq_false hprefix hno) s
  exact ⟨_, hu, rfl, rfl, rfl, rfl, rfl, rfl⟩

/-- Settles O50: an instruction's meaning is a run of its steps, which has no other outcome. -/
theorem nothingFaults : Obligations.NothingFaults := by
  refine ⟨fun i s => ⟨_, exec_eq_run i s⟩, fun s => ?_⟩
  unfold SafeStep step
  split
  · exact ⟨_, rfl⟩
  · split
    · exact ⟨_, exec_eq_run _ _⟩
    · exact ⟨_, rfl⟩

/-- Settles O52. -/
theorem invariantAtReset : Obligations.InvariantAtReset :=
  ⟨⟨reset_mem_wf, rfl, rfl, Nat.le_refl 3, nofun⟩, rfl⟩

end Sys2Proof.Settled
end

section
/-! PROOFS. What an instruction cannot see: the index registers without a prefix, the shadow registers, and the address
latch WZ (spec/10_state.md R103, R111, R112). -/

namespace Sys2Proof.Machine

/-! ### WZ -/

/-- Two states that differ in WZ only. -/
def Alike (s t : State) : Prop := setWz 0 s = setWz 0 t

/-- Two states that differ in the high byte of WZ only. -/
def AlikeLow (s t : State) : Prop := Alike s t ∧ lo8 s.regs.wz = lo8 t.regs.wz

/-- WZ zeroed, as a change. -/
def wzZeroed : Blur := { Blur.none with wz := fun _ => 0 }

theorem wzZeroed_on (s : State) : wzZeroed.on s = setWz 0 s := rfl

/-- A relation that bus cycles keep and that implies the same done signal and the same architectural part. -/
structure Indistinct (R : State → State → Prop) : Prop where
  busCycle : ∀ {s t}, R s t → R (Machine.busCycle s) (Machine.busCycle t)
  done : ∀ {s t}, R s t → s.seq.done = t.seq.done
  arch : ∀ {s t}, R s t → s.arch = t.arch

theorem indistinct_eq : Indistinct Eq := ⟨fun h => h ▸ rfl, fun h => h ▸ rfl, fun h => h ▸ rfl⟩

theorem indistinct_alike : Indistinct Alike where
  busCycle {s t} h := by
    change wzZeroed.on _ = wzZeroed.on _
    rw [← Blur.busCycle_on _ _ rfl, ← Blur.busCycle_on _ _ rfl, wzZeroed_on, wzZeroed_on, h]
  done {s t} h := by
    have hq : (setWz 0 s).seq = (setWz 0 t).seq := by rw [h]
    exact congrArg Seq.done hq
  arch {s t} h := by rw [← arch_setWz 0 s, h, arch_setWz]

theorem busCycle_wz (s : State) : (busCycle s).regs.wz = s.regs.wz := by
  unfold busCycle transact
  cases (settle s).seq.nextCycle <;> rfl

theorem indistinct_alikeLow : Indistinct AlikeLow where
  busCycle h := ⟨indistinct_alike.busCycle h.1, by rw [busCycle_wz, busCycle_wz, h.2]⟩
  done h := indistinct_alike.done h.1
  arch h := indistinct_alike.arch h.1

/-- A program that ends the same from related states. -/
def Hides (R : State → State → Prop) (p : Program) : Prop :=
  ∀ s t, R s t → (runSteps p s).arch = (runSteps p t).arch

theorem hides_eq (p : Program) : Hides Eq p := fun _ _ h => by rw [h]

theorem hides_cons {R R' : State → State → Prop} (hR : Indistinct R') {f : StepFn} {p : Program}
    (hf : ∀ s t, R s t → R' (f s) (f t)) (hp : Hides R' p) : Hides R (f :: p) := by
  intro s t h
  have hst := hf s t h
  cases p with
  | nil => rw [runSteps_last, runSteps_last, arch_settle, arch_settle, hR.arch hst]
  | cons g rest =>
    rw [runSteps_cons, runSteps_cons, hR.done hst]
    split
    · rw [arch_settle, arch_settle, hR.arch hst]
    · exact hp _ _ (hR.busCycle hst)

theorem hides_nil {R : State → State → Prop} (hR : Indistinct R) : Hides R [] := fun s t h => by
  rw [runSteps, runSteps, arch_settle, arch_settle, hR.arch h]

theorem Alike.seq {s t : State} (h : Alike s t) : s.seq = t.seq := by
  have hq : (setWz 0 s).seq = (setWz 0 t).seq := by rw [h]
  exact hq

/-- A step with an effect, WZ apart, that does not see WZ. -/
theorem alike_step {f : StepFn} (hf : ∀ s, wzZeroed.on (f (wzZeroed.on s)) = wzZeroed.on (f s)) {s t : State}
    (h : Alike s t) : Alike (f s) (f t) := by
  have hon : wzZeroed.on s = wzZeroed.on t := h
  change wzZeroed.on _ = wzZeroed.on _
  rw [← hf s, ← hf t, hon]

theorem hides_step {f : StepFn} {p : Program} (hf : ∀ s, wzZeroed.on (f (wzZeroed.on s)) = wzZeroed.on (f s))
    (hp : Hides Alike p) : Hides Alike (f :: p) :=
  hides_cons indistinct_alike (fun _ _ => alike_step hf) hp

@[simp] theorem wzZeroed_on_on (s : State) : wzZeroed.on (wzZeroed.on s) = wzZeroed.on s := rfl
@[simp] theorem signalDone_wzZeroed (s : State) : signalDone (wzZeroed.on s) = signalDone s := rfl
@[simp] theorem wzZeroed_repeatOrDone (again : Bool) (s : State) :
    wzZeroed.on (repeatOrDone again (wzZeroed.on s)) = wzZeroed.on (repeatOrDone again s) := by
  cases again <;> rfl

theorem hides_last {f : StepFn} (hf : ∀ s, f (wzZeroed.on s) = wzZeroed.on (f s)) :
    Hides Alike [fun s => signalDone (f s)] :=
  hides_step (fun s => by simp [hf]) (hides_nil indistinct_alike)

theorem hides_done : Hides Alike [signalDone] := hides_last (f := fun s => s) fun _ => rfl

theorem hides_refetch : Hides Alike [refetch] := hides_last (f := fun s => setPc (s.regs.pc - 2) s) fun _ => rfl

/-- A step that writes WZ first. -/
theorem hides_overwrites {f : StepFn} {p : Program} (hf : ∀ s, f (wzZeroed.on s) = f s) : Hides Alike (f :: p) :=
  hides_cons indistinct_eq (fun s t h => by rw [← hf s, ← hf t, wzZeroed_on, wzZeroed_on, h]) (hides_eq p)

/-- The low byte read into WZ, and a READ requested. -/
theorem alikeLow_takeLow {a : State → Word} (ha : Blind wzZeroed a) {s t : State} (h : Alike s t) :
    AlikeLow (reqRead (a s) (takeLow s)) (reqRead (a t) (takeLow t)) := by
  refine ⟨?_, by simp [takeLow, h.seq]⟩
  change reqRead (a s) (wzZeroed.on s) = reqRead (a t) (wzZeroed.on t)
  rw [← ha s, ← ha t, wzZeroed_on, wzZeroed_on, h]

theorem AlikeLow.takeHigh {s t : State} (h : AlikeLow s t) : Machine.takeHigh s = Machine.takeHigh t := by
  change setWz _ (setWz 0 s) = setWz _ (setWz 0 t)
  rw [h.2, h.1.seq, h.1]

/-- The low byte read into WZ, a READ requested, and then the pair put where it belongs. -/
theorem hides_pair {a : State → Word} {g : StepFn} {put : Word → StepFn} (ha : Blind wzZeroed a)
    (hg : ∀ s, g (wzZeroed.on s) = wzZeroed.on (g s)) (hp : ∀ v, Local wzZeroed (put v)) :
    Hides Alike [fun s => reqRead (a s) (takeLow s),
      fun s => signalDone (put (mk16 s.seq.dataIn (lo8 s.regs.wz)) (g s))] := by
  refine hides_cons indistinct_alikeLow (fun _ _ => alikeLow_takeLow ha)
    (hides_cons indistinct_alike (fun s t ⟨h, hlow⟩ => ?_) (hides_nil indistinct_alike))
  rw [h.seq, hlow]
  exact alike_step (f := fun u => signalDone (put (mk16 t.seq.dataIn (lo8 t.regs.wz)) (g u)))
    (fun u => by simp [hg, (hp _).comm]) h

theorem hides_pushRest {v : State → Word} {after : StepFn} (hv : Blind wzZeroed v) (ha : Local wzZeroed after) :
    Hides Alike (pushRest v after) :=
  hides_step (fun s => by simp [hv s]) (hides_last fun s => by simp [ha.comm])

theorem hides_popRest {put : Word → StepFn} (hp : ∀ v, Local wzZeroed (put v)) : Hides Alike (popRest put) :=
  hides_pair (fun _ => rfl) (fun _ => rfl) hp

/-- A step that branches on what WZ does not decide. -/
theorem wzZeroed_ite {c : Bool} {f g : StepFn} {s : State} (hf : wzZeroed.on (f (wzZeroed.on s)) = wzZeroed.on (f s))
    (hg : wzZeroed.on (g (wzZeroed.on s)) = wzZeroed.on (g s)) :
    wzZeroed.on (if c then f (wzZeroed.on s) else g (wzZeroed.on s)) = wzZeroed.on (if c then f s else g s) := by
  cases c
  · exact hg
  · exact hf

theorem Shaped.hides {p : Program} (h : Shaped wzZeroed p) : Hides Alike p := by
  cases h with
  | single hf => exact hides_last hf.comm
  | singleHold h0 hn hf => exact hides_last fun s => by simp [hf.comm]
  | wide16 hf =>
    exact hides_step (fun _ => rfl) (hides_step (fun _ => rfl) (hides_last hf.comm))
  | readAt ha hf =>
    exact hides_step (fun s => by simp [ha s]) (hides_last fun s => by simp [(hf _).comm])
  | writeAt ha hv => exact hides_step (fun s => by simp [ha s, hv s]) hides_done
  | ioReadAt hp hf =>
    exact hides_step (fun s => by simp [hp s]) (hides_last fun s => by simp [(hf _).comm])
  | ioWriteAt hp hv => exact hides_step (fun s => by simp [hp s, hv s]) hides_done
  | readPairAt nn hp =>
    exact hides_step (fun _ => rfl) (hides_pair (g := fun s => s) (fun _ => rfl) (fun _ => rfl) hp)
  | writePairAt nn hg =>
    exact hides_step (fun s => by simp [hg s]) (hides_step (fun s => by simp [hg s]) hides_done)
  | readAtXy hx xy d hf => exact hides_overwrites fun s => by cases xy <;> rfl
  | writeAtXy hx xy d hv => exact hides_overwrites fun s => by cases xy <;> rfl
  | writeXyHeld hx xy d n => exact hides_overwrites fun s => by cases xy <;> rfl
  | rmwAtHl ho =>
    exact hides_step (fun s => by simp) (hides_step
      (fun s => by simp [ho.comm _ (addr := State.hl) (fun _ => rfl)]) hides_done)
  | rmwAtXy hx xy d ho => exact hides_overwrites fun s => by cases xy <;> rfl
  | rmwXyCb hx xy d copy ho => exact hides_overwrites fun s => by cases xy <;> rfl
  | readXyCb hx xy d hf => exact hides_overwrites fun s => by cases xy <;> rfl
  | pushThen hv ha => exact hides_step (fun s => by simp [hv s]) (hides_pushRest hv ha)
  | popInto hp => exact hides_step (fun s => by simp) (hides_popRest hp)
  | @exchangeAtSp get put hg hp =>
    refine hides_step (fun s => by simp) (hides_cons indistinct_alikeLow (R' := AlikeLow)
      (fun _ _ => alikeLow_takeLow (a := fun s => s.regs.sp + 1) fun _ => rfl)
      (hides_cons indistinct_eq (fun s t h => ?_) (hides_eq _)))
    have hg' : get s = get t := by rw [← hg s, ← hg t, wzZeroed_on, wzZeroed_on, h.1]
    rw [hg', h.takeHigh]
  | digitRotate memory accumulator =>
    exact hides_step (fun s => by simp) (hides_step (fun _ => rfl) (hides_step (fun s => by simp)
      (hides_last fun s => by simp [applySzp])))
  | blockLoad inc repeats =>
    exact hides_step (fun s => by simp) (hides_step (fun s => by simp) (hides_step (fun s => by simp) hides_refetch))
  | blockCompare inc repeats =>
    exact hides_step (fun s => by simp) (hides_step (fun s => by simp) (hides_step (fun s => by simp) hides_refetch))
  | blockIn inc repeats =>
    exact hides_step (fun s => by simp) (hides_step (fun s => by simp) (hides_step (fun s => by simp) hides_refetch))
  | blockOut inc repeats =>
    exact hides_step (fun s => by simp) (hides_step (fun s => by simp) (hides_step (fun s => by simp) hides_refetch))
  | djnz e =>
    exact hides_step (fun s => by simp [apply_ite wzZeroed.on]) (hides_last fun _ => rfl)
  | jr e => exact hides_step (fun _ => rfl) (hides_last fun _ => rfl)
  | jrCc cc e =>
    exact hides_step (fun s => wzZeroed_ite (c := condition (jumpCondition cc) s) (f := reqExec 5) (g := signalDone)
      rfl rfl) (hides_last fun _ => rfl)
  | retCc cc =>
    exact hides_step (fun s => wzZeroed_ite (c := condition cc s) (f := fun s => reqRead s.regs.sp (holdFor 1 s))
      (g := fun s => signalDone (holdFor 1 s)) rfl rfl)
      (hides_popRest fun _ => local_of_seq (fun _ => rfl) fun _ => rfl)
  | callCcNn cc nn =>
    exact hides_step (fun s => wzZeroed_ite (c := condition cc s)
      (f := fun s => reqPushFirst s.regs.pc (holdFor 1 s)) (g := signalDone) (by simp) rfl)
      (hides_pushRest (fun _ => rfl) (local_of_seq (fun _ => rfl) fun _ => rfl))

/-- The architectural effect of an instruction is the same whatever WZ held. -/
theorem hides_programOf (i : Instr) : Hides Alike (programOf i) := by
  cases h : onlyLatches i
  case false => exact (shaped wzZeroed i h (fun _ => rfl) fun _ => rfl).hides
  case true =>
    obtain ⟨l, -, hp⟩ | ⟨l, -, hp⟩ := programOf_onlyLatches h <;> rw [hp] <;>
      exact hides_step (fun _ => rfl) (hides_nil indistinct_alike)

/-! ### The registers an instruction does not name -/

theorem namesIndex_eq_false {i : Instr} (h : latchOf i = .none ∨ latchOf i = .cb ∨ latchOf i = .ed) :
    namesIndex i = false := by
  rcases h with h | h | h <;> simp [namesIndex, h]

/-- IX and IY set, as a change. -/
def indexSet (x y : Word) : Blur := { Blur.none with index := fun _ => (x, y) }

/-- The shadow registers set, as a change. -/
def shadowSet (b d h a : Word) : Blur := { Blur.none with shadow := fun _ => (b, d, h, a) }

end Sys2Proof.Machine

namespace Sys2Proof.Settled
open Machine

/-- Settles O53: no step sees a change of IX and IY; setting them to what they hold shows that they are kept. -/
theorem indexIsolation : Obligations.IndexIsolation := by
  intro i s x y hl
  have hindex : namesIndex i = true → ∀ m : Blur, m.index = id := by simp [namesIndex_eq_false hl]
  have hrun (m : Blur) (hwz : m.wz = id) (hsh : m.shadow = id) (hstale : m.stale = (false, false)) :=
    exec_on m hwz hstale i (fun h => hindex h m) (fun _ => hsh) s
  obtain ⟨t, ht, hset⟩ := hrun (indexSet x y) rfl rfl rfl
  obtain ⟨t', ht', hkept⟩ := hrun (indexSet s.regs.ix s.regs.iy) rfl rfl rfl
  obtain rfl : t = t' := Host.Outcome.next.inj (ht.symm.trans ht')
  have hself : t = (indexSet s.regs.ix s.regs.iy).on t := Host.Outcome.next.inj (ht.symm.trans hkept)
  refine ⟨t, ht, ?_, ?_, hset⟩
  · rw [hself]; rfl
  · rw [hself]; rfl

/-- Settles O54: no step sees a change of the shadow registers; setting them to what they hold shows that they are
kept. -/
theorem shadowIsolation : Obligations.ShadowIsolation := by
  intro i s b d h a hex hexx
  have hshadow : namesShadow i = true → ∀ m : Blur, m.shadow = id := by
    cases i with
    | exAfAf => exact absurd rfl hex
    | exx => exact absurd rfl hexx
    | _ => nofun
  have hrun (m : Blur) (hwz : m.wz = id) (hx : m.index = id) (hstale : m.stale = (false, false)) :=
    exec_on m hwz hstale i (fun _ => hx) (hshadow · m) s
  obtain ⟨t, ht, hset⟩ := hrun (shadowSet b d h a) rfl rfl rfl
  let kept := shadowSet s.regs.bcShadow s.regs.deShadow s.regs.hlShadow s.regs.afShadow
  obtain ⟨t', ht', hkept⟩ := hrun kept rfl rfl rfl
  obtain rfl : t = t' := Host.Outcome.next.inj (ht.symm.trans ht')
  have hself : t = kept.on t := Host.Outcome.next.inj (ht.symm.trans hkept)
  refine ⟨t, ht, ?_, ?_, ?_, ?_, hset⟩
  all_goals rw [hself]; rfl

/-- Settles O55: the run forgets WZ before it can reach anything a claim compares. -/
theorem scratchUnobservable : Obligations.ScratchUnobservable := by
  intro i s w
  refine ⟨_, _, exec_eq_run i s, exec_eq_run i _, hides_programOf i _ _ ?_⟩
  rfl

end Sys2Proof.Settled
end

section
/-! PROOFS. What fetching a unit does, and a step from a unit boundary as the meaning of the unit fetched
(spec/40_step_machine.md R400, R403, R406, R410, R416; log 10). -/

namespace Sys2Proof.Machine

/-! ### The fetch -/

theorem nextRefresh_eq (r : Byte) :
    nextRefresh r = BitVec.ofNat 8 (128 * (r.toNat / 128) + (r.toNat + 1) % 128) := by
  revert r; decide

theorem operandCount_le (l : Latch) (op : Byte) : operandCount l op ≤ 2 := by
  revert op; cases l <;> decide

/-- The FETCH, with the hold of DJNZ. -/
def fetchedOpcode (s : State) : State :=
  if opcodeHold s.latch (memAnswer s.regs.pc s) = 0 then fetchOpcode s
  else holdFor (opcodeHold s.latch (memAnswer s.regs.pc s)) (fetchOpcode s)

theorem fetched_plain {s : State} (h : awaitsXyCb s.latch = false) :
    fetched s = fetchOperands (operandCount s.latch (memAnswer s.regs.pc s)) (fetchedOpcode s) := by
  rw [fetched, h]; rfl

theorem fetched_xyCb {s : State} (h : awaitsXyCb s.latch = true) : fetched s = fetchXyCb s := by
  rw [fetched, h]; rfl

/-- What holds of the FETCH with and without a hold holds of `fetchedOpcode`. -/
theorem fetchedOpcode_cases {P : State → Prop} {s : State} (h : P (fetchOpcode s))
    (hh : ∀ k, P (holdFor k (fetchOpcode s))) : P (fetchedOpcode s) := by
  unfold fetchedOpcode
  split
  · exact h
  · exact hh _

/-- A FETCH as a claim records it. -/
def fetchedBy (s : State) : State :=
  record .fetch s.regs.pc (memAnswer s.regs.pc s) 4
    (advanceMem (setRefresh (nextRefresh s.regs.r) (setPc (s.regs.pc + 1) s)))

/-- The READ of a byte at PC, as a claim records it. -/
def operandBy (s : State) : State := readBy s.regs.pc (setPc (s.regs.pc + 1) s)

theorem arch_fetchedOpcode (s : State) : (fetchedOpcode s).arch = (fetchedBy s).arch :=
  fetchedOpcode_cases (P := fun t => t.arch = (fetchedBy s).arch) rfl fun _ => arch_holdFor ..
theorem fetchedOpcode_regs (s : State) : (fetchedOpcode s).regs = (fetchedBy s).regs :=
  fetchedOpcode_cases (P := fun t => t.regs = (fetchedBy s).regs) rfl fun _ => rfl
theorem fetchedOpcode_fields (s : State) : (fetchedOpcode s).fields = fieldsOf (memAnswer s.regs.pc s) :=
  fetchedOpcode_cases (P := fun t => t.fields = fieldsOf (memAnswer s.regs.pc s)) rfl fun _ => rfl
theorem upcoming_fetchedOpcode (k : Nat) (a : Word) (s : State) :
    upcoming k a (fetchedOpcode s) = upcoming (k + 1) a s := by
  refine fetchedOpcode_cases (P := fun t => upcoming k a t = upcoming (k + 1) a s) ?_ fun _ => ?_
  all_goals exact upcoming_advanceMem k a s

/-- A byte at PC requested and read. -/
theorem requestOperand_eq (s : State) : requestOperand s = reqRead s.regs.pc (setPc (s.regs.pc + 1) s) := rfl

theorem arch_operand (s : State) : (busCycle (requestOperand s)).arch = (operandBy s).arch := by
  rw [requestOperand_eq, cycle_read_arch]; rfl
theorem operand_regs (s : State) : (busCycle (requestOperand s)).regs = { s.regs with pc := s.regs.pc + 1 } := rfl
theorem operand_fields (s : State) : (busCycle (requestOperand s)).fields = s.fields := rfl
theorem operand_dataIn (s : State) : (busCycle (requestOperand s)).seq.dataIn = memAnswer s.regs.pc s := rfl
theorem upcoming_operand (k : Nat) (a : Word) (s : State) :
    upcoming k a (busCycle (requestOperand s)) = upcoming (k + 1) a s := upcoming_advanceMem k a s

theorem archFn_operandBy : ArchFn operandBy := fun s t h => by
  have hpc : s.arch.regs.pc = t.arch.regs.pc := by rw [h]
  change s.regs.pc = t.regs.pc at hpc
  have hv : memAnswer s.regs.pc s = memAnswer s.regs.pc t := by rw [← memAnswer_arch, h, memAnswer_arch]
  simp [operandBy, readBy, ← hpc, hv, h]

theorem fetchOperands_two (s : State) :
    fetchOperands 2 s = takeHigh (busCycle (requestOperand (takeLow (busCycle (requestOperand s))))) := rfl
theorem upcoming_setRefresh (k : Nat) (a : Word) (v : Byte) (s : State) :
    upcoming k a (setRefresh v s) = upcoming k a s := rfl
theorem tail_tail_eq_drop {α : Type} (l : List α) : l.tail.tail = l.drop 2 := by
  rw [← List.drop_one, ← List.drop_one, List.drop_drop]
/-! ### A step from a boundary -/

theorem step_dormant {s : State} (h : s.dormant = true) : step s = .next s := by simp [step, h]

theorem step_boundary {s : State} (hd : s.dormant = false) (hb : s.atBoundary = true) :
    step s = exec (nextInstr s) (fetched s) := by simp [step, hd, hb]

theorem nextInstr_plain {s : State} (h : awaitsXyCb s.latch = false) :
    nextInstr s = decodeUnit s.latch (upcoming 0 s.regs.pc s) (upcoming 1 (s.regs.pc + 1) s)
      (upcoming 2 (s.regs.pc + 2) s) := by simp [nextInstr, h]

theorem nextInstr_xyCb {s : State} (h : awaitsXyCb s.latch = true) :
    nextInstr s = decodeUnit s.latch (upcoming 0 s.seq.nextAddr s) (upcoming 1 s.regs.pc s) 0 := by
  simp [nextInstr, h]

/-- At most three bytes, given one by one, begin the three bytes there. -/
theorem isPrefix_of_getD {bs : List Byte} {get : Nat → Byte} (hlen : bs.length ≤ 3)
    (h : ∀ k, k < bs.length → get k = bs.getD k 0) : bs <+: [get 0, get 1, get 2] := by
  refine List.prefix_iff_getElem?.2 fun k hk => ?_
  have hk3 : k < 3 := hk.trans_le hlen
  have hget := h k hk
  rw [List.getD_eq_getElem _ _ hk] at hget
  rw [← hget]
  match k, hk3 with
  | 0, _ | 1, _ | 2, _ => rfl

theorem awaitsXyCb_ne_none {l : Latch} (h : awaitsXyCb l = true) : l ≠ .none := by
  rintro rfl; cases h

/-- An encoded instruction where the unit is fetched is the unit. -/
theorem nextInstr_of_encoded {i : Instr} {s : State} (hwf : WellFormed i) (hl : s.latch = latchOf i)
    (hplain : awaitsXyCb s.latch = false → ∀ k, k < (encodeUnit i ++ lookahead i).length →
      upcoming k (s.regs.pc + BitVec.ofNat 16 k) s = (encodeUnit i ++ lookahead i).getD k 0)
    (hxy : awaitsXyCb s.latch = true → encodeUnit i = [upcoming 0 s.seq.nextAddr s, upcoming 1 s.regs.pc s])
    (hprefix : i = .ddPrefix ∨ i = .fdPrefix → xyIneffective (upcoming 1 (s.regs.pc + 1) s) = false) :
    nextInstr s = i := by
  cases h : awaitsXyCb s.latch
  case false =>
    have hbytes := isPrefix_of_getD (get := fun k => upcoming k (s.regs.pc + BitVec.ofNat 16 k) s)
      (length_unit_le i) (hplain h)
    rw [nextInstr_plain h, hl]
    refine decodeUnit_of_isPrefix hwf ?_ hprefix
    simpa using hbytes
  case true =>
    have hne : latchOf i ≠ .none := hl ▸ awaitsXyCb_ne_none h
    rw [nextInstr_xyCb h, hl]
    refine decodeUnit_of_isPrefix hwf ?_ fun hi => ?_
    · rw [lookahead_eq_nil fun hn => absurd hn hne, hxy h]
      exact ⟨[0], rfl⟩
    · rcases hi with rfl | rfl <;> exact absurd rfl hne

/-! ### Where a step ends -/

theorem busCycle_ended (s : State) : (busCycle s).seq.ended = s.seq.ended := by
  unfold busCycle transact
  cases (settle s).seq.nextCycle <;> rfl

theorem fetched_ended (s : State) : (fetched s).seq.ended = s.seq.ended := by
  cases h : awaitsXyCb s.latch
  · rw [fetched_plain h]
    have hf : (fetchedOpcode s).seq.ended = s.seq.ended :=
      fetchedOpcode_cases (P := fun t => t.seq.ended = s.seq.ended) rfl fun _ => rfl
    rw [← hf]
    unfold fetchOperands
    split <;> simp [takeLow, takeHigh, requestOperand, busCycle_ended, reqRead, setWz]
  · rw [fetched_xyCb h]
    simp [fetchXyCb, takeLow, requestOperand, busCycle_ended, reqRead, setWz]

/-- The place of the edge-level machine with `ended` set, as a change. -/
def endedSet (b : Bool) : Blur := { Blur.none with place := fun (c, k, _) => (c, k, b) }

/-- Every step of every instruction leaves the edge-level machine's place alone. -/
theorem runSteps_ended (i : Instr) (s : State) : (runSteps (programOf i) s).seq.ended = s.seq.ended := by
  have h := runSteps_on rfl (commutes_programOf (endedSet s.seq.ended) rfl i (fun _ => rfl) fun _ => rfl) s
  change runSteps (programOf i) s = _ at h
  rw [h]; rfl

/-- A prefix byte is a unit of one byte. -/
theorem operandCount_of_onlyLatches {l : Latch} {b0 b1 b2 : Byte} (h : onlyLatches (decodeUnit l b0 b1 b2) = true) :
    operandCount l b0 = 0 := by
  obtain ⟨-, hbytes, -⟩ := encodesAs_decodeUnit l b0 b1 b2
  have hlen := length_encodeUnit_onlyLatches h
  rw [hbytes, List.length_take] at hlen
  simp only [List.length_cons, List.length_nil] at hlen
  have := operandCount_le l b0
  omega

theorem operandCount_xyCb {l : Latch} (h : awaitsXyCb l = true) (op : Byte) : operandCount l op = 1 := by
  cases l with
  | ddcb | fdcb => rfl
  | none | cb | ed | dd | fd => cases h

/-- A prefix byte is fetched outside a DDCB/FDCB unit, by a FETCH alone. -/
theorem fetched_of_onlyLatches {s : State} (h : onlyLatches (nextInstr s) = true) :
    awaitsXyCb s.latch = false ∧ fetched s = fetchedOpcode s := by
  cases hx : awaitsXyCb s.latch
  case true =>
    rw [nextInstr_xyCb hx] at h
    have h0 := operandCount_of_onlyLatches h
    rw [operandCount_xyCb hx] at h0
    cases h0
  case false =>
    rw [nextInstr_plain hx] at h
    have h0 := operandCount_of_onlyLatches h
    rw [upcoming_zero] at h0
    exact ⟨rfl, by rw [fetched_plain hx, h0, fetchOperands]⟩

theorem fetchedOpcode_seq (s : State) :
    (fetchedOpcode s).seq.nextCycle = s.seq.nextCycle ∧ (fetchedOpcode s).seq.step = 1 :=
  fetchedOpcode_cases (P := fun t => t.seq.nextCycle = s.seq.nextCycle ∧ t.seq.step = 1) ⟨rfl, rfl⟩ fun _ => ⟨rfl, rfl⟩

theorem atBoundary_iff {s : State} : s.atBoundary = true ↔ s.seq.ended = true ∧ s.seq.holdLeft = 0 ∧
    (if awaitsXyCb s.latch then s.seq.nextCycle = .read ∧ s.seq.step = 1 else s.seq.nextCycle = .fetch) := by
  unfold State.atBoundary
  split <;> simp [and_assoc]

/-- The unit begun at a boundary ends at one. -/
theorem atBoundary_runSteps {s : State} (hb : s.atBoundary = true) :
    (runSteps (programOf (nextInstr s)) (settle (fetched s))).atBoundary = true := by
  obtain ⟨hended, -, hnext⟩ := atBoundary_iff.1 hb
  refine atBoundary_iff.2 ⟨by rw [runSteps_ended]; exact (fetched_ended s).trans hended, ?_⟩
  cases h : onlyLatches (nextInstr s)
  case false =>
    obtain ⟨u, hu⟩ := (paced_programOf h).runSteps_signals _ (quiet_settle (fetched s))
    rw [hu]
    exact ⟨rfl, rfl⟩
  case true =>
    obtain ⟨hx, hf⟩ := fetched_of_onlyLatches h
    obtain ⟨hcycle, hstep⟩ := fetchedOpcode_seq s
    rw [hx] at hnext
    rw [hf]
    obtain ⟨l, hl, hp⟩ | ⟨l, hl, hp⟩ := programOf_onlyLatches h
    · rw [hp]
      refine ⟨rfl, ?_⟩
      change if awaitsXyCb l then _ else (fetchedOpcode s).seq.nextCycle = .fetch
      simpa [hl, hcycle] using hnext
    · rw [hp]
      refine ⟨rfl, ?_⟩
      change if awaitsXyCb l then Cycle.read = .read ∧ (fetchedOpcode s).seq.step = 1 else _
      simp [hl, hstep]

end Sys2Proof.Machine

namespace Sys2Proof.Settled
open Machine

/-- Settles O1: the two branches of the step. -/
theorem stepRunsDecodedUnit : Obligations.StepRunsDecodedUnit := by
  refine fun s i hd hb => ⟨fun h hi => ?_, fun h hi => ?_⟩
  · rw [step_boundary hd hb, nextInstr_plain h, hi]
  · rw [step_boundary hd hb, nextInstr_xyCb h, hi]

/-- Settles O2: the unit fetched is the encoded instruction. -/
theorem encodedInstructionRuns : Obligations.EncodedInstructionRuns := by
  intro i s hwf hd hb hl hplain hxy hprefix
  rw [step_boundary hd hb, nextInstr_of_encoded hwf hl hplain hxy hprefix]

/-- Settles O4: a prefix byte leaves the core before a FETCH or the READ of `d`; any other instruction signals done. -/
theorem unitsEndAtBoundary : Obligations.UnitsEndAtBoundary := by
  intro s hd hb
  exact ⟨_, by rw [step_boundary hd hb, exec_eq_run], atBoundary_runSteps hb⟩

/-- Settles O3: the FETCH, then each operand byte, as a claim records them. -/
theorem fetchAdvances : Obligations.FetchAdvances := by
  refine ⟨fun s h => ?_, fun s h => ?_⟩
  · dsimp only
    rw [fetched_plain h, upcoming_zero, ← nextRefresh_eq]
    refine ⟨operandCount_le _ _, ?_⟩
    have hle := operandCount_le s.latch (memAnswer s.regs.pc s)
    generalize operandCount s.latch (memAnswer s.regs.pc s) = n at hle ⊢
    match n, hle with
    | 0, _ =>
      refine ⟨?_, nofun, nofun, fetchedOpcode_fields s⟩
      rw [fetchOperands, arch_fetchedOpcode]
      simp [State.arch, fetchedBy]
    | 1, _ =>
      refine ⟨?_, fun _ => ?_, nofun, fetchedOpcode_fields s⟩
      · rw [fetchOperands, arch_takeLow, arch_operand, archFn_operandBy (arch_fetchedOpcode s)]
        simp [State.arch, fetchedBy, operandBy, readBy, upcoming_setRefresh, tail_tail_eq_drop]
      · simp [fetchOperands, takeLow, operand_dataIn, fetchedOpcode_regs, fetchedBy, ← upcoming_zero,
          upcoming_fetchedOpcode]
    | 2, _ =>
      refine ⟨?_, nofun, fun _ => ?_, fetchedOpcode_fields s⟩
      · have h1 : (takeLow (busCycle (requestOperand (fetchedOpcode s)))).arch = (operandBy (fetchedBy s)).arch := by
          rw [arch_takeLow, arch_operand, archFn_operandBy (arch_fetchedOpcode s)]
        rw [fetchOperands_two, arch_takeHigh, arch_operand, archFn_operandBy h1]
        simp [State.arch, fetchedBy, operandBy, readBy, upcoming_setRefresh, tail_tail_eq_drop, BitVec.add_assoc]
      · simp [fetchOperands_two, takeLow, takeHigh, operand_dataIn, operand_regs, fetchedOpcode_regs, fetchedBy,
          ← upcoming_zero, upcoming_operand, upcoming_fetchedOpcode, BitVec.add_assoc]
  · dsimp only
    rw [fetched_xyCb h]
    refine ⟨?_, ?_, ?_⟩
    · have h1 : (takeLow (busCycle (reqRead s.seq.nextAddr s))).arch = (readBy s.seq.nextAddr s).arch := by simp
      rw [fetchXyCb, arch_setFields, arch_operand, archFn_operandBy h1]
      simp [State.arch, operandBy, readBy, tail_tail_eq_drop]
    · simp [fetchXyCb, operand_regs, takeLow]
    · simp [fetchXyCb, operand_dataIn, takeLow]

end Sys2Proof.Settled
end

section
/-! PROOFS. The clock-edge machine inside one bus cycle (spec/20_memory.md R220 to R236): which phase an edge enters, and
that up to the pins and its place in the cycle the machine stays as it is until the data phase. -/

namespace Sys2Proof.Machine

/-! ### A running core -/

/-- The core takes clock edges. -/
structure Clocked (s : State) : Prop where
  resetLow : s.resetLow = false
  active : s.active = true
  halted : s.halted = false

theorem clocked_of_not_dormant {s : State} (hd : s.dormant = false) (hr : s.resetLow = false) : Clocked s := by
  simp only [State.dormant, Bool.or_eq_false_iff, Bool.not_eq_false'] at hd
  exact ⟨hr, hd.1, hd.2⟩

theorem Clocked.not_dormant {s : State} (h : Clocked s) : s.dormant = false := by
  simp [State.dormant, h.active, h.halted]

theorem Clocked.tick {s : State} (h : Clocked s) (e : Edge) : Machine.tick e s = runningEdge e s := by
  simp [Machine.tick, h.resetLow, h.active, h.halted]

/-- The pins and the place in the cycle forgotten, as a change. -/
def bare : Blur := { Blur.none with pins := fun _ => Pins.idle, place := fun _ => (.fetch, 0, false) }

/-- Two states that differ in the pins and the place in the cycle only. -/
def SameCore (s t : State) : Prop := bare.on s = bare.on t

section
variable {s t : State}

theorem SameCore.symm (h : SameCore s t) : SameCore t s := Eq.symm h
theorem SameCore.trans {u : State} (h : SameCore s t) (h' : SameCore t u) : SameCore s u := Eq.trans h h'

/-- What sees neither the pins nor the place is the same in both. -/
theorem SameCore.congr {α : Type} (h : SameCore s t) (f : State → α) (hf : ∀ s, f (bare.on s) = f s) : f s = f t := by
  rw [← hf s, ← hf t, h]

theorem SameCore.regs (h : SameCore s t) : s.regs = t.regs := h.congr State.regs fun _ => rfl
theorem SameCore.mem (h : SameCore s t) : s.mem = t.mem := h.congr State.mem fun _ => rfl
theorem SameCore.arch (h : SameCore s t) : s.arch = t.arch := h.congr State.arch fun _ => rfl
theorem SameCore.memAnswer (h : SameCore s t) (a : Word) : memAnswer a s = memAnswer a t :=
  h.congr (Machine.memAnswer a) fun _ => rfl
theorem SameCore.holdLeft (h : SameCore s t) : s.seq.holdLeft = t.seq.holdLeft :=
  h.congr (fun s => s.seq.holdLeft) fun _ => rfl
theorem SameCore.nextCycle (h : SameCore s t) : s.seq.nextCycle = t.seq.nextCycle :=
  h.congr (fun s => s.seq.nextCycle) fun _ => rfl
theorem SameCore.nextAddr (h : SameCore s t) : s.seq.nextAddr = t.seq.nextAddr :=
  h.congr (fun s => s.seq.nextAddr) fun _ => rfl
theorem SameCore.nextData (h : SameCore s t) : s.seq.nextData = t.seq.nextData :=
  h.congr (fun s => s.seq.nextData) fun _ => rfl
theorem SameCore.nextLen (h : SameCore s t) : s.seq.nextLen = t.seq.nextLen :=
  h.congr (fun s => s.seq.nextLen) fun _ => rfl
theorem SameCore.clocked (h : SameCore s t) (ht : Clocked t) : Clocked s :=
  ⟨(h.congr State.resetLow fun _ => rfl).trans ht.resetLow, (h.congr State.active fun _ => rfl).trans ht.active,
    (h.congr State.halted fun _ => rfl).trans ht.halted⟩

/-- An operation that sees neither the pins nor the place. -/
theorem SameCore.map {f : StepFn} (hf : ∀ s, f (bare.on s) = bare.on (f s)) (h : SameCore s t) :
    SameCore (f s) (f t) := by
  unfold SameCore at *
  rw [← hf, ← hf, h]

end

/-! ### The phases of a cycle -/

/-- A running core is in phase `k` of a cycle `c`, with no hold. -/
structure InCycle (c : Cycle) (k : Nat) (t : State) : Prop where
  clocked : Clocked t
  left : t.seq.holdLeft = 0
  ended : t.seq.ended = false
  cycle : t.seq.cycle = c
  phase : t.seq.phase = k

/-- The first edge after a cycle begins the next one. -/
theorem tick_startCycle {s : State} (hc : Clocked s) (hended : s.seq.ended = true) (hleft : s.seq.holdLeft = 0) :
    tick .rising s = startCycle s := by
  simp [hc.tick, runningEdge, nextEdge, hended, hleft]

/-- The edge on which phase `k + 1` follows phase `k`. -/
def edgeAfter (k : Nat) : Edge := if k % 2 = 0 then .falling else .rising

/-- The phase counter set. -/
def inPhase (k : Nat) (s : State) : State := { s with seq := { s.seq with phase := k } }

theorem InCycle.nextEdge {c : Cycle} {k : Nat} {t : State} (h : InCycle c k t) : Machine.nextEdge t = edgeAfter k := by
  simp [Machine.nextEdge, h.left, h.ended, h.phase, edgeAfter]

theorem InCycle.tick {c : Cycle} {k : Nat} {t : State} (h : InCycle c k t) :
    Machine.tick (edgeAfter k) t = enterPhase (inPhase (k + 1) t) := by
  rw [h.clocked.tick, runningEdge, if_pos h.nextEdge.symm, h.left, h.ended, h.phase]
  rfl

/-! ### What a phase does -/

/-- The phases that change more than the pins. -/
def dataPhase (c : Cycle) (k : Nat) : Bool :=
  match c with
  | .fetch => k == 4 || k == 7
  | .read | .write => k == 5
  | .ioRead | .ioWrite => k == 7
  | .exec => false

/-- Any other phase moves the pins only. -/
theorem sameCore_phaseActions {s : State} (h : dataPhase s.seq.cycle s.seq.phase = false) :
    SameCore (phaseActions s) s := by
  cases hc : s.seq.cycle <;> rw [hc] at h <;> simp only [phaseActions, hc]
  case fetch =>
    unfold fetchPhase
    split
    case h_3 hk => rw [hk] at h; cases h
    case h_5 hk => rw [hk] at h; cases h
    all_goals rfl
  case read =>
    unfold readPhase
    split
    case h_3 hk => rw [hk] at h; cases h
    all_goals rfl
  case write =>
    unfold writePhase
    split
    case h_4 hk => rw [hk] at h; cases h
    all_goals rfl
  case ioRead =>
    unfold ioReadPhase
    split
    case h_3 hk => rw [hk] at h; cases h
    all_goals rfl
  case ioWrite =>
    unfold ioWritePhase
    split
    case h_4 hk => rw [hk] at h; cases h
    all_goals rfl
  case exec => rfl

/-- What no phase changes. -/
structure PhaseKeeps (s t : State) : Prop where
  cycle : t.seq.cycle = s.seq.cycle
  phase : t.seq.phase = s.seq.phase
  ended : t.seq.ended = s.seq.ended
  left : t.seq.holdLeft = s.seq.holdLeft
  len : t.seq.nextLen = s.seq.nextLen
  regs : t.regs = s.regs
  resetLow : t.resetLow = s.resetLow
  active : t.active = s.active
  halted : t.halted = s.halted

theorem phaseActions_keeps (s : State) : PhaseKeeps s (phaseActions s) := by
  cases hc : s.seq.cycle <;> simp only [phaseActions, hc]
  case fetch => unfold fetchPhase; split <;> exact ⟨rfl, rfl, rfl, rfl, rfl, rfl, rfl, rfl, rfl⟩
  case read => unfold readPhase; split <;> exact ⟨rfl, rfl, rfl, rfl, rfl, rfl, rfl, rfl, rfl⟩
  case write => unfold writePhase; split <;> exact ⟨rfl, rfl, rfl, rfl, rfl, rfl, rfl, rfl, rfl⟩
  case ioRead => unfold ioReadPhase; split <;> exact ⟨rfl, rfl, rfl, rfl, rfl, rfl, rfl, rfl, rfl⟩
  case ioWrite => unfold ioWritePhase; split <;> exact ⟨rfl, rfl, rfl, rfl, rfl, rfl, rfl, rfl, rfl⟩
  case exec => exact ⟨rfl, rfl, rfl, rfl, rfl, rfl, rfl, rfl, rfl⟩

theorem lastPhase_congr {s t : State} (hcycle : s.seq.cycle = t.seq.cycle) (hlen : s.seq.nextLen = t.seq.nextLen) :
    lastPhase s = lastPhase t := by rw [lastPhase, lastPhase, hcycle, hlen]

theorem lastPhase_phaseActions (s : State) : lastPhase (phaseActions s) = lastPhase s :=
  let h := phaseActions_keeps s; lastPhase_congr h.cycle h.len

/-- Before the last phase nothing but the phase's actions happens. -/
theorem enterPhase_of_ne {s : State} (h : s.seq.phase ≠ lastPhase s) : enterPhase s = phaseActions s := by
  have hne : (phaseActions s).seq.phase ≠ lastPhase (phaseActions s) := by
    rwa [(phaseActions_keeps s).phase, lastPhase_phaseActions]
  rw [enterPhase, if_neg hne]

/-- In the last phase of a cycle other than EXEC the step machine is invoked. -/
theorem enterPhase_last {s : State} (hne : s.seq.cycle ≠ .exec) (h : s.seq.phase = lastPhase s) :
    enterPhase s = invoke (countStep (phaseActions s)) := by
  have hk := phaseActions_keeps s
  have heq : (phaseActions s).seq.phase = lastPhase (phaseActions s) := by rwa [hk.phase, lastPhase_phaseActions]
  rw [enterPhase, if_pos heq, if_neg (by rwa [hk.cycle])]

/-- The next phase is entered, before the last one. -/
def entered (k : Nat) (t : State) : State := phaseActions (inPhase k t)

section
variable {c : Cycle} {k : Nat} {t : State}

theorem lastPhase_inPhase (k : Nat) (t : State) : lastPhase (inPhase k t) = lastPhase t := rfl

theorem InCycle.tick_before (h : InCycle c k t) (hk : k + 1 ≠ lastPhase t) :
    Machine.tick (edgeAfter k) t = entered (k + 1) t := by
  rw [h.tick, enterPhase_of_ne hk, entered]

theorem InCycle.tick_last (h : InCycle c k t) (hc : c ≠ .exec) (hk : k + 1 = lastPhase t) :
    Machine.tick (edgeAfter k) t = invoke (countStep (entered (k + 1) t)) := by
  rw [h.tick, enterPhase_last (s := inPhase (k + 1) t) (h.cycle ▸ hc) hk, entered]

theorem InCycle.entered (h : InCycle c k t) (n : Nat) : InCycle c n (Machine.entered n t) := by
  have hk := phaseActions_keeps (inPhase n t)
  exact ⟨⟨hk.resetLow.trans h.clocked.resetLow, hk.active.trans h.clocked.active, hk.halted.trans h.clocked.halted⟩,
    hk.left.trans h.left, hk.ended.trans h.ended, hk.cycle.trans h.cycle, hk.phase⟩

theorem InCycle.sameCore_entered (h : InCycle c k t) {n : Nat} (hd : dataPhase c n = false) :
    SameCore (Machine.entered n t) t :=
  .trans (t := inPhase n t) (sameCore_phaseActions (h.cycle ▸ hd)) rfl

/-- The states a cycle goes through, edge by edge, to its last phase `n`. -/
theorem inCycle_phases {phase : Nat → State} {n : Nat} (h0 : InCycle c 0 (phase 0))
    (hn : ∀ t : State, t.seq.cycle = c → lastPhase t = n)
    (htick : ∀ k, k + 1 < n → phase (k + 1) = Machine.tick (edgeAfter k) (phase k)) :
    ∀ k, k < n → InCycle c k (phase k) ∧ (k + 1 < n → phase (k + 1) = Machine.entered (k + 1) (phase k))
  | 0, _ => ⟨h0, fun hk => by rw [htick 0 hk, h0.tick_before (by rw [hn _ h0.cycle]; omega)]⟩
  | k + 1, hk => by
    obtain ⟨h, hentered⟩ := inCycle_phases h0 hn htick k (by omega)
    have h' : InCycle c (k + 1) (phase (k + 1)) := hentered hk ▸ h.entered (k + 1)
    exact ⟨h', fun hk' => by rw [htick _ hk', h'.tick_before (by rw [hn _ h'.cycle]; omega)]⟩

/-- No register changes before the last phase. -/
theorem regs_phases {phase : Nat → State} {n : Nat}
    (h : ∀ k, k < n → InCycle c k (phase k) ∧ (k + 1 < n → phase (k + 1) = Machine.entered (k + 1) (phase k))) :
    ∀ {k}, k < n → (phase k).regs = (phase 0).regs
  | 0, _ => rfl
  | k + 1, hk => by
    rw [(h k (by omega)).2 hk, Machine.entered, (phaseActions_keeps _).regs]
    exact regs_phases h (by omega)

/-- Before its data phase a cycle changes the pins only. -/
theorem sameCore_phases {phase : Nat → State} {n : Nat}
    (h : ∀ k, k < n → InCycle c k (phase k) ∧ (k + 1 < n → phase (k + 1) = Machine.entered (k + 1) (phase k))) :
    ∀ {k}, k < n → (∀ j, j ≤ k → dataPhase c j = false) → SameCore (phase k) (phase 0)
  | 0, _, _ => rfl
  | k + 1, hk, hd => by
    obtain ⟨hin, hentered⟩ := h k (by omega)
    rw [hentered hk]
    exact (hin.sameCore_entered (hd _ (Nat.le_refl _))).trans
      (sameCore_phases h (by omega) fun j hj => hd j (by omega))

end

theorem sameCore_releaseAfterCycle (s : State) : SameCore (releaseAfterCycle s) s := by
  unfold releaseAfterCycle
  dsimp only
  split <;> rfl

/-- The requested cycle begun, before the actions of its phase 0. -/
def cycleStarted (s : State) : State :=
  { releaseAfterCycle s with
    seq := { (releaseAfterCycle s).seq with
      cycle := (releaseAfterCycle s).seq.nextCycle, phase := 0, ended := false } }

theorem startCycle_eq (s : State) : startCycle s = enterPhase (cycleStarted s) := rfl

theorem sameCore_cycleStarted (s : State) : SameCore (cycleStarted s) s :=
  .trans (t := releaseAfterCycle s) rfl (sameCore_releaseAfterCycle s)

theorem cycleStarted_cycle (s : State) : (cycleStarted s).seq.cycle = s.seq.nextCycle :=
  (sameCore_releaseAfterCycle s).nextCycle

/-- No cycle is as short as one phase. -/
theorem lastPhase_pos {s : State} (hlen : s.seq.cycle = .exec → 0 < s.seq.nextLen) : 0 < lastPhase s := by
  unfold lastPhase
  cases h : s.seq.cycle
  case exec =>
    have := hlen h
    simp only
    omega
  all_goals simp

/-- The first edge after a cycle enters phase 0 of the requested one. -/
theorem startCycle_of_len {s : State} (hlen : s.seq.nextCycle = .exec → 0 < s.seq.nextLen) :
    startCycle s = phaseActions (cycleStarted s) := by
  have hpos : 0 < lastPhase (cycleStarted s) := lastPhase_pos fun h => by
    rw [(sameCore_cycleStarted s).nextLen]
    exact hlen (cycleStarted_cycle s ▸ h)
  rw [startCycle_eq, enterPhase_of_ne (Nat.ne_of_lt hpos)]

theorem inCycle_startCycle {s : State} (hc : Clocked s) (hleft : s.seq.holdLeft = 0)
    (hlen : s.seq.nextCycle = .exec → 0 < s.seq.nextLen) : InCycle s.seq.nextCycle 0 (startCycle s) := by
  rw [startCycle_of_len hlen]
  have hs := sameCore_cycleStarted s
  have hk := phaseActions_keeps (cycleStarted s)
  have hclocked := hs.clocked hc
  exact ⟨⟨hk.resetLow.trans hclocked.resetLow, hk.active.trans hclocked.active, hk.halted.trans hclocked.halted⟩,
    (hk.left.trans hs.holdLeft).trans hleft, hk.ended, hk.cycle.trans (cycleStarted_cycle s), hk.phase⟩

theorem sameCore_startCycle {s : State} (hlen : s.seq.nextCycle = .exec → 0 < s.seq.nextLen) :
    SameCore (startCycle s) s := by
  rw [startCycle_of_len hlen]
  refine .trans (sameCore_phaseActions ?_) (sameCore_cycleStarted s)
  change dataPhase (cycleStarted s).seq.cycle 0 = false
  cases (cycleStarted s).seq.cycle <;> rfl

/-! ### The step machine's invocation -/

theorem Keeps.trans_step {s t u : State} (h : Keeps s t) (h' : StepKeeps t u) : StepKeeps s u := by
  obtain ⟨hk, hh⟩ := h'
  refine ⟨⟨hk.mem.trans h.mem, hk.cfg.trans h.cfg, hk.ioIn.trans h.ioIn, hk.ioTape.trans h.ioTape,
    hk.memTape.trans h.memTape, hk.pins.trans h.pins, hk.active.trans h.active, hk.resetLow.trans h.resetLow,
    hk.resetCount.trans h.resetCount, hk.iff2.trans h.iff2, ?_, rfl⟩, hh.imp_left (·.trans h.halted)⟩
  rcases hk.iff1 with h1 | h1
  · exact h.iff1.imp (h1.trans ·) (h1.trans ·)
  · exact .inr (h1.trans h.iff2)

theorem runStep_keeps (n : Nat) (s : State) : StepKeeps s (runStep n s) := by
  unfold runStep
  split
  case h_1 f hf => exact programOf_keeps _ f (List.mem_of_getElem? hf) s
  case h_2 => exact (Keeps.refl s).stepKeeps

theorem Keeps.takeOperand {s t : State} {k : Nat} (h : Keeps s t) : Keeps s (Machine.takeOperand k t) :=
  h.takeLow.ite h.takeHigh

/-- An invocation is a step of the instruction, or takes an operand byte, or does the register updates of a FETCH. -/
theorem invokeStep_keeps (s : State) : StepKeeps s (invokeStep s) := by
  have hs := Keeps.refl s
  unfold invokeStep
  split
  · unfold invokeXyCb
    dsimp only
    split
    · exact hs.takeLow.requestOperand.stepKeeps
    · split
      · exact hs.setFields.trans_step (runStep_keeps _ _)
      · exact runStep_keeps _ _
  · have h1 := hs.fetchUpdates.ite (c := s.seq.step = 1) hs
    generalize hu : (if s.seq.step = 1 then fetchUpdates s else s) = u at h1
    have h2 := (h1.takeOperand (k := s.seq.step)).ite
      (c := 2 ≤ s.seq.step ∧ s.seq.step ≤ operandCount u.latch u.opcode + 1) h1
    generalize hw : (if 2 ≤ s.seq.step ∧ s.seq.step ≤ operandCount u.latch u.opcode + 1
      then takeOperand s.seq.step u else u) = w at h2
    simp only [invokePlain, hu, hw]
    split
    · exact h2.trans_step (runStep_keeps _ _)
    · split
      · exact h2.holdFor.requestOperand.stepKeeps
      · exact h2.requestOperand.stepKeeps

theorem invoke_pins (s : State) : (invoke s).pins = s.pins := by
  unfold invoke
  dsimp only
  split <;> exact (invokeStep_keeps s).1.pins

/-! ### The invariant (spec/10_state.md R110, R121) -/

/-- A sound core that is not halted. -/
structure Live (s : State) : Prop where
  sound : Sound s
  halted : s.halted = false

theorem Live.inv {s : State} (h : Live s) : s.Inv := h.sound.inv fun hh => by simp [h.halted] at hh

theorem Live.frame {s t : State} (h : Live s) (mem : t.mem = s.mem) (regs : t.regs = s.regs)
    (count : t.resetCount = s.resetCount) (halted : t.halted = s.halted) : Live t :=
  ⟨h.sound.frame mem regs count, halted.trans h.halted⟩

theorem Live.of_sameCore {s t : State} (h : Live s) (hst : SameCore t s) : Live t :=
  h.frame hst.mem hst.regs (hst.congr State.resetCount fun _ => rfl) (hst.congr State.halted fun _ => rfl)

theorem StepKeeps.inv {s t : State} (h : StepKeeps s t) (hs : Live s) : t.Inv := by
  refine (h.sound hs.sound).inv fun hh => ?_
  rcases h.2 with heq | ⟨-, hend⟩
  · rw [heq, hs.halted] at hh
    cases hh
  · exact hend

theorem inv_invoke {s : State} (hs : Live s) : (invoke s).Inv := by
  have h := (invokeStep_keeps s).inv hs
  unfold invoke
  dsimp only
  split
  · exact h
  · exact h

theorem Live.countStep {s : State} (hs : Live s) : Live (Machine.countStep s) := by
  unfold Machine.countStep
  split
  · exact hs
  all_goals exact hs.frame rfl rfl rfl rfl

theorem Live.phaseActions {s : State} (hs : Live s) : Live (Machine.phaseActions s) := by
  cases hd : dataPhase s.seq.cycle s.seq.phase
  case false => exact hs.of_sameCore (sameCore_phaseActions hd)
  case true =>
    cases hc : s.seq.cycle <;> simp only [Machine.phaseActions, hc]
    case write =>
      unfold writePhase
      split
      case h_4 => exact ⟨(hs.sound.storeMemory s.seq.nextAddr s.seq.nextData).frame rfl rfl rfl, hs.halted⟩
      all_goals exact hs.frame rfl rfl rfl rfl
    case fetch => unfold fetchPhase; split <;> exact hs.frame rfl rfl rfl rfl
    case read => unfold readPhase; split <;> exact hs.frame rfl rfl rfl rfl
    case ioRead => unfold ioReadPhase; split <;> exact hs.frame rfl rfl rfl rfl
    case ioWrite => unfold ioWritePhase; split <;> exact hs.frame rfl rfl rfl rfl
    case exec => exact hs

theorem inv_endExec {s : State} (hs : Live s) : (endExec s).Inv :=
  inv_invoke (Live.countStep (hs.frame rfl rfl rfl rfl))

theorem inv_enterPhase {s : State} (hs : Live s) : (enterPhase s).Inv := by
  have h := hs.phaseActions
  unfold enterPhase
  dsimp only
  split
  · split
    · split
      · exact Live.inv (h.frame rfl rfl rfl rfl)
      · exact inv_endExec h
    · exact inv_invoke h.countStep
  · exact h.inv

theorem inv_heldEdge {s : State} (hs : Live s) : (heldEdge s).Inv := by
  have h := hs.of_sameCore (sameCore_releaseAfterCycle s)
  unfold heldEdge
  dsimp only
  split
  · split
    · exact Live.inv (h.frame rfl rfl rfl rfl)
    · exact inv_endExec (h.frame rfl rfl rfl rfl)
  · exact Live.inv (h.frame rfl rfl rfl rfl)

theorem inv_runningEdge {s : State} (hs : Live s) (e : Edge) : (runningEdge e s).Inv := by
  unfold runningEdge
  split
  · split
    · exact inv_heldEdge hs
    · split
      · exact inv_enterPhase (hs.of_sameCore (sameCore_cycleStarted s))
      · exact inv_enterPhase (hs.frame rfl rfl rfl rfl)
  · exact hs.inv

/-- Every clock edge keeps the invariant. -/
theorem inv_tick {s : State} (hs : s.Inv) (e : Edge) : (tick e s).Inv := by
  obtain ⟨mem, iff1, iff2, count, hh⟩ := hs
  unfold tick
  split
  · split
    · exact ⟨mem, iff1, iff2, Nat.min_le_right _ _, hh⟩
    · exact ⟨mem, iff1, iff2, count, hh⟩
  · split
    · exact ⟨mem, iff1, iff2, count, hh⟩
    · split
      · exact ⟨mem, iff1, iff2, count, hh⟩
      case isFalse hhalted => exact inv_runningEdge ⟨⟨mem, iff1, iff2, count⟩, by simpa using hhalted⟩ e

theorem inv_runToBoundary : ∀ (fuel : Nat) {s : State}, s.Inv → (runToBoundary fuel s).Inv
  | 0, _, hs => hs
  | fuel + 1, s, hs => by
    unfold runToBoundary
    split
    · exact hs
    · exact inv_runToBoundary fuel (inv_tick hs _)

/-! ### The fetch of a unit -/

theorem Live.busCycle {s : State} (hs : Live s) : Live (Machine.busCycle s) := by
  refine ⟨hs.sound.busCycle, ?_⟩
  unfold Machine.busCycle Machine.transact
  cases (settle s).seq.nextCycle <;> exact hs.halted

theorem Keeps.live {s t : State} (h : Keeps s t) (hs : Live s) : Live t := ⟨h.sound hs.sound, h.halted.trans hs.halted⟩

theorem Live.fetched {s : State} (hs : Live s) : Live (Machine.fetched s) := by
  have hop : Live (fetchedOpcode s) := by
    have hfetch : Live (fetchOpcode s) := (Keeps.refl _).fetchUpdates.live (hs.frame rfl rfl rfl rfl)
    exact fetchedOpcode_cases hfetch fun _ => (Keeps.refl _).holdFor.live hfetch
  have hoperand {u : State} (hu : Live u) : Live (Machine.busCycle (requestOperand u)) :=
    ((Keeps.refl u).requestOperand.live hu).busCycle
  cases h : awaitsXyCb s.latch
  case false =>
    rw [fetched_plain h]
    unfold fetchOperands
    split
    · exact hop
    · exact (Keeps.refl _).takeLow.live (hoperand hop)
    · exact (Keeps.refl _).takeHigh.live (hoperand ((Keeps.refl _).takeLow.live (hoperand hop)))
  case true =>
    rw [fetched_xyCb h]
    exact (Keeps.refl _).setFields.live
      (hoperand ((Keeps.refl _).takeLow.live ((Keeps.refl s).reqRead.live hs).busCycle))

/-- An instruction keeps the invariant: if it halts the core it has signalled done. -/
theorem inv_exec {i : Instr} {s t : State} (hs : Live s) (h : exec i s = .next t) : t.Inv := by
  have hsettled : Live (settle s) := hs.frame rfl rfl rfl rfl
  obtain rfl : runSteps (programOf i) (settle s) = t := by
    rw [exec_eq_run] at h
    exact Host.Outcome.next.inj h
  cases hi : onlyLatches i
  case false =>
    obtain ⟨u, hu⟩ := (paced_programOf hi).runSteps_signals _ (quiet_settle s)
    refine (hsettled.sound.runSteps i).inv fun _ => ?_
    rw [hu]
    exact ⟨rfl, rfl⟩
  case true =>
    refine Live.inv ⟨hsettled.sound.runSteps i, ?_⟩
    obtain ⟨l, -, hp⟩ | ⟨l, -, hp⟩ := programOf_onlyLatches hi <;> rw [hp] <;> exact hs.halted

/-! ### RESET (spec/70_reset_and_hazards.md R851) -/

/-- A write cut short may reach memory and the record; nothing else of the platform changes. -/
theorem cutShort_platform (s : State) :
    (cutShort s).cfg = s.cfg ∧ (cutShort s).ioIn = s.ioIn ∧ (cutShort s).ioTape = s.ioTape
      ∧ (cutShort s).memTape = s.memTape := by
  unfold cutShort
  dsimp only
  split
  · split
    · split <;> exact ⟨rfl, rfl, rfl, rfl⟩
    · exact ⟨rfl, rfl, rfl, rfl⟩
  · exact ⟨rfl, rfl, rfl, rfl⟩

theorem cutShort_of_not_inFlight {s : State} (h : writeInFlight s = false) : cutShort s = s := by
  simp [cutShort, h]

theorem bytes_zero : ∀ byte ∈ Regs.zero.bytes, byte = 0 := by decide

/-! ### FETCH and WRITE, phase by phase -/

section
variable {t : State}

theorem entered_fetch (h : t.seq.cycle = .fetch) (k : Nat) : entered k t = fetchPhase (inPhase k t) := by
  rw [entered, phaseActions, show (inPhase k t).seq.cycle = .fetch from h]
theorem entered_write (h : t.seq.cycle = .write) (k : Nat) : entered k t = writePhase (inPhase k t) := by
  rw [entered, phaseActions, show (inPhase k t).seq.cycle = .write from h]
theorem lastPhase_fetch (h : t.seq.cycle = .fetch) : lastPhase t = 7 := by rw [lastPhase, h]
theorem lastPhase_write (h : t.seq.cycle = .write) : lastPhase t = 5 := by rw [lastPhase, h]

end

theorem countStep_pins (s : State) : (countStep s).pins = s.pins := by
  unfold countStep
  split <;> rfl
theorem countStep_mem (s : State) : (countStep s).mem = s.mem := by
  unfold countStep
  split <;> rfl
theorem invoke_mem (s : State) : (invoke s).mem = s.mem := by
  unfold invoke
  dsimp only
  split <;> exact (invokeStep_keeps s).1.mem

theorem startCycle_fetch_pins {s : State} (h : s.seq.nextCycle = .fetch) :
    (startCycle s).pins
      = { s.pins with addr := some s.regs.pc, addrDelayed := false, data := none, rfsh := false, m1 := true } := by
  rw [startCycle_of_len (by simp [h])]
  simp [cycleStarted, releaseAfterCycle, releaseRefresh, floatData, phaseActions, fetchPhase, driveAddress, h, writes]

theorem startCycle_write_pins {s : State} (h : s.seq.nextCycle = .write) :
    (startCycle s).pins = { s.pins with addr := some s.seq.nextAddr, addrDelayed := false, rfsh := false } := by
  rw [startCycle_of_len (by simp [h])]
  simp [cycleStarted, releaseAfterCycle, releaseRefresh, phaseActions, writePhase, driveAddress, h, writes]

end Sys2Proof.Machine

namespace Sys2Proof.Settled
open Machine

/-- Settles O51: a step is nothing, an instruction, or clock edges, and each keeps the invariant. -/
theorem invariantKept : Obligations.InvariantKept := by
  intro s t hs h
  unfold step at h
  split at h
  · exact Host.Outcome.next.inj h ▸ hs
  case isFalse hd =>
    have hlive : Live s := ⟨hs.sound, by simp [State.dormant] at hd; exact hd.2⟩
    split at h
    · exact inv_exec hlive.fetched h
    · exact Host.Outcome.next.inj h ▸ inv_runToBoundary _ hs

/-- Settles O58: the two guards of the step and of the edge. -/
theorem dormantCoreStays : Obligations.DormantCoreStays := by
  refine fun s e => ⟨step_dormant, fun hr ha => ?_, fun hr ha hh => ?_⟩
  · simp [tick, hr, ha]
  · simp [tick, hr, ha, hh, floatData, releaseRefresh]

/-- Settles O56: the assertion writes every value of spec/10_state.md R120 over whatever a cut-short write left. -/
theorem resetAssertion : Obligations.ResetAssertion := by
  intro s hr
  obtain ⟨hcfg, hin, htape, hmemTape⟩ := cutShort_platform s
  dsimp only
  rw [setReset_assert hr]
  refine ⟨bytes_zero, rfl, rfl, rfl, rfl, rfl, rfl, rfl, rfl, rfl, rfl, rfl, rfl, rfl, rfl, rfl, rfl, rfl, rfl, rfl,
    rfl, rfl, rfl, rfl, rfl, rfl, rfl, hcfg, hin, htape, hmemTape, fun h => ?_⟩
  have hs := cutShort_of_not_inFlight h
  exact ⟨by rw [← congrArg State.mem hs]; rfl, by rw [← congrArg State.bus hs]; rfl⟩

/-- Settles O59: the phases of the FETCH entered one by one. -/
theorem fetchSchedule : Obligations.FetchSchedule := by
  intro s hd hr hended hleft hcycle edges phase
  have hc := clocked_of_not_dormant hd hr
  have hlen : s.seq.nextCycle = .exec → 0 < s.seq.nextLen := by simp [hcycle]
  have hstart : phase 0 = startCycle s := tick_startCycle hc hended hleft
  have htick : ∀ k, k + 1 < 8 → phase (k + 1) = tick (edgeAfter k) (phase k) := by
    intro k hk
    match k, hk with
    | 0, _ | 1, _ | 2, _ | 3, _ | 4, _ | 5, _ | 6, _ => rfl
  have hphases := inCycle_phases (phase := phase) (hstart ▸ hcycle ▸ inCycle_startCycle hc hleft hlen)
    (fun _ => lastPhase_fetch) fun k hk => htick k (by omega)
  have hin (k : Nat) (hk : k < 7) : InCycle .fetch k (phase k) := (hphases k hk).1
  have hnext (k : Nat) (hk : k + 1 < 7) : phase (k + 1) = fetchPhase (inPhase (k + 1) (phase k)) := by
    rw [(hphases k (by omega)).2 hk, entered_fetch (hin k (by omega)).cycle]
  have hlast : phase 7 = invoke (countStep (fetchPhase (inPhase 7 (phase 6)))) := by
    have h6 := hin 6 (by decide)
    rw [htick 6 (by decide), h6.tick_last nofun (lastPhase_fetch h6.cycle).symm, entered_fetch h6.cycle]
  have hregs (k : Nat) (hk : k < 7) : (phase k).regs = s.regs :=
    (regs_phases hphases hk).trans (hstart ▸ (sameCore_startCycle hlen).regs)
  have hsame := sameCore_phases hphases (k := 3) (by decide) (by decide)
  refine ⟨?_, ?_, ?_, ?_, ?_, ?_, ?_, ?_, ?_, hregs⟩
  · rw [hstart, startCycle_fetch_pins hcycle]
  · rw [hnext 0 (by decide)]; rfl
  · rw [hnext 1 (by decide)]; rfl
  · rw [hnext 2 (by decide), hnext 1 (by decide)]; rfl
  · rw [hnext 3 (by decide), ← hregs 3 (by decide)]; rfl
  · have hpc : (inPhase 4 (phase 3)).regs.pc = s.regs.pc := congrArg Regs.pc (hregs 3 (by decide))
    rw [hnext 3 (by decide)]
    change memAnswer (inPhase 4 (phase 3)).regs.pc (phase 3) = _
    rw [hpc, (hsame.trans (hstart ▸ sameCore_startCycle hlen)).memAnswer]
  · rw [hnext 4 (by decide)]; rfl
  · rw [hnext 5 (by decide)]; rfl
  · rw [hlast, invoke_pins, countStep_pins]; rfl

/-- Settles O60: the phases of the WRITE entered one by one. -/
theorem writeSchedule : Obligations.WriteSchedule := by
  intro s hd hr hended hleft hcycle edges phase
  have hc := clocked_of_not_dormant hd hr
  have hlen : s.seq.nextCycle = .exec → 0 < s.seq.nextLen := by simp [hcycle]
  have hstart : phase 0 = startCycle s := tick_startCycle hc hended hleft
  have htick : ∀ k, k + 1 < 6 → phase (k + 1) = tick (edgeAfter k) (phase k) := by
    intro k hk
    match k, hk with
    | 0, _ | 1, _ | 2, _ | 3, _ | 4, _ => rfl
  have hphases := inCycle_phases (phase := phase) (hstart ▸ hcycle ▸ inCycle_startCycle hc hleft hlen)
    (fun _ => lastPhase_write) fun k hk => htick k (by omega)
  have hin (k : Nat) (hk : k < 5) : InCycle .write k (phase k) := (hphases k hk).1
  have hnext (k : Nat) (hk : k + 1 < 5) : phase (k + 1) = writePhase (inPhase (k + 1) (phase k)) := by
    rw [(hphases k (by omega)).2 hk, entered_write (hin k (by omega)).cycle]
  have hlast : phase 5 = invoke (countStep (writePhase (inPhase 5 (phase 4)))) := by
    have h4 := hin 4 (by decide)
    rw [htick 4 (by decide), h4.tick_last nofun (lastPhase_write h4.cycle).symm, entered_write h4.cycle]
  have hsame (k : Nat) (hk : k < 5) (hd : ∀ j, j ≤ k → dataPhase .write j = false) : SameCore (phase k) s :=
    (sameCore_phases hphases hk hd).trans (hstart ▸ sameCore_startCycle hlen)
  have h0 := hsame 0 (by decide) (by decide)
  have h4 := hsame 4 (by decide) (by decide)
  refine ⟨?_, ?_, ?_, ?_, ?_, h4.mem, ?_, ?_⟩
  · rw [hstart, startCycle_write_pins hcycle]
  · rw [hnext 0 (by decide), ← h0.nextData]; rfl
  · rw [hnext 1 (by decide)]; rfl
  · rw [hnext 2 (by decide)]; rfl
  · rw [hnext 3 (by decide)]; rfl
  · rw [hlast, invoke_pins, countStep_pins]; rfl
  · have hmem : (phase 5).mem = s.mem.write s.seq.nextAddr s.seq.nextData := by
      rw [hlast, invoke_mem, countStep_mem, ← h4.mem, ← h4.nextAddr, ← h4.nextData]; rfl
    rw [hmem]
    exact storedByte_write _ _ _

end Sys2Proof.Settled
end

section
/-! PROOFS. What an instruction that moves bytes to or from memory, the stack or a port leaves behind, read off the shape
of its steps (spec/42_load.md, spec/45_stack_control.md, spec/46_rotate_bit.md, spec/48_io.md). -/

namespace Sys2Proof.Machine

/-! ### A byte, or a pair, stored -/

/-- An instruction that finishes with one byte stored, its memory given apart. -/
theorem FinishesAs.storedByte {i : Instr} {s u : State} {a : Word} {v : Byte} (h : FinishesAs i s u)
    (hu : u.mem = s.mem.write a v) :
    ∃ t, exec i s = .next t ∧ ({ t with mem := s.mem } : State).arch = (finished (withMem s.mem u)).arch
      ∧ Machine.storedByte s.mem t.mem a v := by
  obtain ⟨t, ht, harch, hmem⟩ := h.memory_apart s.mem
  exact ⟨t, ht, harch, by rw [hmem, hu]; exact storedByte_write _ _ _⟩

/-- An instruction that finishes with a pair stored, its memory given apart. -/
theorem FinishesAs.storedPair {i : Instr} {s u : State} {a v : Word} (h : FinishesAs i s u)
    (hu : Machine.storedPair s.mem u.mem a v) :
    ∃ t, exec i s = .next t ∧ ({ t with mem := s.mem } : State).arch = (finished (withMem s.mem u)).arch
      ∧ Machine.storedPair s.mem t.mem a v := by
  obtain ⟨t, ht, harch, hmem⟩ := h.memory_apart s.mem
  exact ⟨t, ht, harch, hmem ▸ hu⟩

@[simp] theorem storeMemory_mem (a : Word) (v : Byte) (s : State) : (storeMemory a v s).mem = s.mem.write a v := rfl

/-! ### One step, with a hold -/

theorem archFn_id : ArchFn (fun s => s) := fun _ _ h => h

theorem finishesAs_singleHold {i : Instr} {n : Nat} {f : StepFn} (hp : programOf i = singleHold n f) (hf : ArchFn f)
    (s : State) : FinishesAs i s (f s) :=
  finishesAs_of_runSteps hp (by
    have h : (f (holdFor n (settle s))).arch = (f s).arch := hf (by simp)
    simp [singleHold, runSteps_last, h])

/-! ### Loads and stores -/

section
variable {i : Instr} {xy : XY} {d : Byte}

theorem finishesAs_writeAt {addr : State → Word} {value : State → Byte} (hp : programOf i = writeAt addr value)
    (ha : ∀ s, addr (settle s) = addr s) (hv : ∀ s, value (settle s) = value s) (s : State) :
    FinishesAs i s (storeMemory (addr s) (value s) s) :=
  finishesAs_of_runSteps hp (by simp [writeAt, runSteps_cons, runSteps_last, ha, hv])

theorem finishesAs_writeAtXy {value : State → Byte} (hp : programOf i = writeAtXy xy d value)
    (hv : ∀ s, value (busCycle (reqExec 5 (formAddress xy d (settle s)))) = value s) (s : State) :
    FinishesAs i s (storeMemory (indexAddress xy d s) (value s) s) :=
  finishesAs_of_runSteps hp (by
    have hv := hv s
    simp only [formAddress, indexAddress_settle] at hv
    simp [writeAtXy, runSteps_cons, runSteps_last, formAddress, hv])

theorem finishesAs_writeXyHeld {n : Byte} (hp : programOf i = writeXyHeld xy d n) (s : State) :
    FinishesAs i s (storeMemory (indexAddress xy d s) n s) :=
  finishesAs_of_runSteps hp (by simp [writeXyHeld, runSteps_cons, runSteps_last, formAddress])

theorem finishesAs_readPairAt {nn : Word} {put : Word → StepFn} (hp : programOf i = readPairAt nn put)
    (hf : ∀ v, ArchFn (put v)) (s : State) :
    FinishesAs i s (put (mk16 (memAnswer (nn + 1) (readBy nn s)) (memAnswer nn s)) (readBy (nn + 1) (readBy nn s))) :=
  finishesAs_of_runSteps hp (by
    have h : (put (mk16 (memAnswer (nn + 1) (readBy nn s)) (memAnswer nn s))
          (busCycle (reqRead (nn + 1) (takeLow (busCycle (reqRead nn (settle s))))))).arch
        = (put (mk16 (memAnswer (nn + 1) (readBy nn s)) (memAnswer nn s)) (readBy (nn + 1) (readBy nn s))).arch :=
      hf _ (by simp [readBy])
    simpa [readPairAt, runSteps_cons, runSteps_last, takeLow] using congrArg finished h)

theorem finishesAs_writePairAt {nn : Word} {get : State → Word} (hp : programOf i = writePairAt nn get)
    (hg : ∀ s, get (settle s) = get s) (hw : ∀ a v s, get (busCycle (reqWrite a v s)) = get s) (s : State) :
    FinishesAs i s (storeMemory (nn + 1) (hi8 (get s)) (storeMemory nn (lo8 (get s)) s)) :=
  finishesAs_of_runSteps hp (by simp [writePairAt, runSteps_cons, runSteps_last, hg, hw])

end

/-! ### The operands of loads and stores -/

theorem programOf_byteReg_loadImmediate (g : ByteReg) (n : Byte) :
    programOf (g.loadImmediate n) = single (fun s => g.set n s) := by
  cases g with
  | main r => rfl
  | half xy k => cases xy <;> rfl

theorem finishesAs_byteAt_load (g : ByteAt) (r : R8) (s : State) :
    FinishesAs (g.load r) s (setR r (memAnswer (g.addr s) s) (readBy (g.addr s) s)) := by
  have hf (v : Byte) : ArchFn (setR r v) := archFn_of_commutes (arch_setR r v)
  cases g with
  | hl => exact finishesAs_readAt rfl settle_hl hf s
  | indexed xy d => exact finishesAs_readAtXy (xy := xy) (d := d) (by cases xy <;> rfl) hf s

theorem finishesAs_byteAt_store (g : ByteAt) (r : R8) (s : State) :
    FinishesAs (g.store r) s (storeMemory (g.addr s) (getR r s) s) := by
  cases g with
  | hl => exact finishesAs_writeAt rfl settle_hl (getR_settle r) s
  | indexed xy d =>
    exact finishesAs_writeAtXy (xy := xy) (d := d) (by cases xy <;> rfl) (fun s => by simp [formAddress]) s

theorem finishesAs_byteAt_storeImmediate (g : ByteAt) (n : Byte) (s : State) :
    FinishesAs (g.storeImmediate n) s (storeMemory (g.addr s) n s) := by
  cases g with
  | hl => exact finishesAs_writeAt (addr := State.hl) (value := fun _ => n) rfl settle_hl (fun _ => rfl) s
  | indexed xy d => exact finishesAs_writeXyHeld (xy := xy) (d := d) (by cases xy <;> rfl) s

section
variable (g : PairReg) (s : State)

@[simp] theorem arch_PairReg_set (v : Word) : (g.set v s).arch = g.set v s.arch := by
  cases g with
  | main rp => exact arch_setRp rp v s
  | index xy => exact arch_setX xy v s

@[simp] theorem PairReg.get_arch : g.get s.arch = g.get s := by
  cases g with
  | main rp => exact getRp_arch rp s
  | index xy => exact getX_arch xy s

theorem PairReg.get_settle : g.get (settle s) = g.get s := by
  cases g with
  | main rp => exact getRp_settle rp s
  | index xy => exact getX_settle xy s

theorem PairReg.get_cycle_write (a : Word) (v : Byte) : g.get (busCycle (reqWrite a v s)) = g.get s := by
  cases g with
  | main rp => exact getRp_cycle_write a v rp s
  | index xy => exact getX_cycle_write a v xy s

theorem programOf_pairReg_loadImmediate (nn : Word) : programOf (g.loadImmediate nn) = single (fun s => g.set nn s) := by
  cases g with
  | main rp => rfl
  | index xy => cases xy <;> rfl

theorem programOf_pairReg_load (nn : Word) : programOf (g.load nn) = readPairAt nn g.set := by
  cases g with
  | main rp => rfl
  | index xy => cases xy <;> rfl

theorem programOf_pairReg_store (nn : Word) : programOf (g.store nn) = writePairAt nn g.get := by
  cases g with
  | main rp => rfl
  | index xy => cases xy <;> rfl

theorem programOf_pairReg_inc : programOf g.inc = singleHold 2 (fun s => g.set (g.get s + 1) s) := by
  cases g with
  | main rp => rfl
  | index xy => cases xy <;> rfl

theorem programOf_pairReg_dec : programOf g.dec = singleHold 2 (fun s => g.set (g.get s - 1) s) := by
  cases g with
  | main rp => rfl
  | index xy => cases xy <;> rfl

end

/-! ### The flags of `szp` and of the engine's rotates -/

/-- `szp` packs the flags as R471 gives them. -/
theorem szp_flags (v : Byte) (pv : Bool) (f0 : Byte) :
    let f := szp v pv f0
    resultFlags f v ∧ flagPV f = pv ∧ flagH f = false ∧ flagN f = false ∧ flagC f = flagC f0 :=
  ⟨resultFlags_mkF .., flagPV_mkF .., flagH_mkF .., flagN_mkF .., flagC_mkF ..⟩

end Sys2Proof.Machine

namespace Sys2Proof.Settled
open Machine

/-- Settles O9: each load is one step that writes its destination. -/
theorem loadRegister : Obligations.LoadRegister := by
  refine ⟨fun g n s => ?_, fun r r' s => ?_, fun xy r r' s => ?_⟩
  · exact finishesAs_single (programOf_byteReg_loadImmediate g n) (archFn_of_commutes (arch_ByteReg_set g n)) s
  · exact finishesAs_single (i := .ldRR r r') rfl (archFn_of_commutes fun _ => by simp) s
  · exact finishesAs_single (f := fun s => setRX xy r (getRX xy r' s) s) (by cases xy <;> rfl)
      (archFn_of_commutes fun _ => by simp) s

/-- Settles O10: one READ, and the byte it is answered. -/
theorem loadFromMemory : Obligations.LoadFromMemory := by
  have hf (v : Byte) : ArchFn (setR .a v) := archFn_of_commutes (arch_setR .a v)
  exact ⟨finishesAs_byteAt_load, finishesAs_readAt (i := .ldAAtBc) rfl settle_bc hf,
    finishesAs_readAt (i := .ldAAtDe) rfl settle_de hf,
    fun nn => finishesAs_readAt (i := .ldAAtNn nn) (addr := fun _ => nn) rfl (fun _ => rfl) hf⟩

/-- Settles O11: one WRITE, of the byte at the address. -/
theorem storeByte : Obligations.StoreByte := by
  refine ⟨fun g r s => (finishesAs_byteAt_store g r s).storedByte rfl,
    fun g n s => (finishesAs_byteAt_storeImmediate g n s).storedByte rfl, fun s => ?_, fun s => ?_, fun nn s => ?_⟩
  · exact (finishesAs_writeAt (i := .ldAtBcA) (addr := State.bc) (value := fun s => s.regs.a) rfl
      (fun _ => rfl) (fun _ => rfl) s).storedByte rfl
  · exact (finishesAs_writeAt (i := .ldAtDeA) (addr := State.de) (value := fun s => s.regs.a) rfl
      (fun _ => rfl) (fun _ => rfl) s).storedByte rfl
  · exact (finishesAs_writeAt (i := .ldAtNnA nn) (addr := fun _ => nn) (value := fun s => s.regs.a) rfl
      (fun _ => rfl) (fun _ => rfl) s).storedByte rfl

/-- Settles O12: one step each; those that load A pack the flags with `szp`. -/
theorem loadInterruptRefresh : Obligations.LoadInterruptRefresh := by
  intro s
  refine ⟨?_, ?_, ?_, ?_⟩
  · exact finishesAs_singleHold (i := .ldIA) (f := fun s => setI s.regs.a s) rfl (archFn_of_commutes fun _ => rfl) s
  · exact finishesAs_singleHold (i := .ldRA) (f := fun s => setRefresh s.regs.a s) rfl
      (archFn_of_commutes fun _ => rfl) s
  · obtain ⟨t, ht, harch⟩ := finishesAs_singleHold (i := .ldAI)
      (f := fun s => applySzp s.regs.i s.regs.iff2 (setR .a s.regs.i s)) rfl (archFn_of_commutes fun _ => rfl) s
    obtain ⟨hres, hpv, hh, hn, hcarry⟩ := szp_flags s.regs.i s.regs.iff2 s.regs.f
    exact ⟨t, _, ht, harch, hres, hh, hn, hpv, hcarry⟩
  · obtain ⟨t, ht, harch⟩ := finishesAs_singleHold (i := .ldAR)
      (f := fun s => applySzp s.regs.r s.regs.iff2 (setR .a s.regs.r s)) rfl (archFn_of_commutes fun _ => rfl) s
    obtain ⟨hres, hpv, hh, hn, hcarry⟩ := szp_flags s.regs.r s.regs.iff2 s.regs.f
    exact ⟨t, _, ht, harch, hres, hh, hn, hpv, hcarry⟩

/-- Settles O13: two READs, low byte first, or one step. -/
theorem loadPair : Obligations.LoadPair := by
  have hset (g : PairReg) (v : Word) : ArchFn (g.set v) := archFn_of_commutes (arch_PairReg_set g · v)
  refine ⟨fun g nn s => ?_, fun g nn s => ?_, fun nn s => ?_, fun s => ?_, fun xy s => ?_⟩
  · exact finishesAs_single (programOf_pairReg_loadImmediate g nn) (hset g nn) s
  · exact finishesAs_readPairAt (programOf_pairReg_load g nn) (hset g) s
  · exact finishesAs_readPairAt (i := .ldHlAtNn nn) (put := setHl) rfl (hset (.main .hl)) s
  · exact finishesAs_singleHold (i := .ldSpHl) (f := fun s => setSp s.hl s) rfl (archFn_of_commutes fun _ => rfl) s
  · exact finishesAs_singleHold (f := fun s => setSp (getX xy s) s) (by cases xy <;> rfl)
      (archFn_of_commutes fun _ => by simp) s

/-- Settles O14: two WRITEs, low byte first. -/
theorem storePair : Obligations.StorePair := by
  refine ⟨fun g nn s => ?_, fun nn s => ?_⟩
  · exact (finishesAs_writePairAt (programOf_pairReg_store g nn) g.get_settle
      (fun a v s => g.get_cycle_write s a v) s).storedPair
      (storedPair_lowFirst _ _ _)
  · exact (finishesAs_writePairAt (i := .ldAtNnHl nn) (get := State.hl) rfl (fun _ => rfl) cycle_write_hl s).storedPair
      (storedPair_lowFirst _ _ _)

/-- Settles O25: one step, which writes the pair. -/
theorem incDecPair : Obligations.IncDecPair := by
  intro g s
  have hinc : BitVec.ofNat 16 ((g.get s).toNat + 1) = g.get s + 1 := by simp [BitVec.ofNat_add]
  have hdec : BitVec.ofNat 16 ((g.get s).toNat + 65535) = g.get s - 1 := by
    rw [BitVec.ofNat_add, BitVec.ofNat_toNat, BitVec.setWidth_eq]
    exact (sub_eq_add_neg (g.get s) 1).symm
  rw [hinc, hdec]
  exact ⟨finishesAs_singleHold (programOf_pairReg_inc g) (archFn_of_commutes fun _ => by simp) s,
    finishesAs_singleHold (programOf_pairReg_dec g) (archFn_of_commutes fun _ => by simp) s⟩

end Sys2Proof.Settled
end

section
/-! PROOFS. Read, modify, write: INC and DEC of memory, the CB rotates, RES and SET, RLD and RRD (spec/43_alu8.md section
3, spec/46_rotate_bit.md). -/

namespace Sys2Proof.Machine

/-! ### The operations on a byte -/

/-- An operation on a byte is a function of the configuration, the byte and F: the result, and the new F. -/
def RmwIs (op : Rmw) (g : Config → Byte → Byte → Byte × Byte) : Prop :=
  ∀ v put s, op v put s = put (g s.cfg v s.regs.f).1 (setF (g s.cfg v s.regs.f).2 s)

theorem rmwIs_inc8 : RmwIs applyInc8 inc8 := fun _ _ _ => rfl
theorem rmwIs_dec8 : RmwIs applyDec8 dec8 := fun _ _ _ => rfl
theorem rmwIs_rot (k : RotOp) : RmwIs (applyRot k) (fun _ v f => rot k v f) := fun _ _ _ => rfl
theorem rmwIs_res (y : BitVec 3) : RmwIs (applyRes y) (fun _ v f => (resBit y v, f)) := fun _ _ _ => rfl
theorem rmwIs_set (y : BitVec 3) : RmwIs (applySet y) (fun _ v f => (setBit y v, f)) := fun _ _ _ => rfl

/-- A byte of memory read at the operand's address, and a result written back there with F. -/
def ByteAt.rewritten (g : ByteAt) (r : Byte × Byte) (s : State) : State :=
  setF r.2 (storeMemory (g.addr s) r.1 (readBy (g.addr s) s))

theorem record_setF (k : Cycle) (a : Word) (v : Byte) (n : Nat) (f : Byte) (s : State) :
    record k a v n (setF f s) = setF f (record k a v n s) := rfl
theorem withMem_setF (m : Memory) (f : Byte) (s : State) : withMem m (setF f s) = setF f (withMem m s) := rfl

@[simp] theorem setR_f (r : R8) (v : Byte) (s : State) : (setR r v s).regs.f = s.regs.f := by cases r <;> rfl
theorem setF_setR (f : Byte) (r : R8) (v : Byte) (s : State) : setF f (setR r v s) = setR r v (setF f s) := by
  cases r <;> rfl

/-- A read, its address and answer alike, of states with the same architectural part. -/
theorem archFn_readBy {a : Word} : ArchFn (readBy a) := fun s t h => by
  have hv : memAnswer a s = memAnswer a t := by rw [← memAnswer_arch, h, memAnswer_arch]
  simp [readBy, hv, h]

section
variable {i : Instr} {op : Rmw} {g : Config → Byte → Byte → Byte × Byte} (ho : RmwIs op g)
include ho

theorem finishesAs_rmwAtHl (hp : programOf i = rmwAtHl op) (s : State) :
    FinishesAs i s (ByteAt.hl.rewritten (g s.cfg (ByteAt.hl.value s) s.regs.f) s) :=
  finishesAs_of_runSteps hp (by
    simp [rmwAtHl, runSteps_cons, runSteps_last, ho _ _ _, ByteAt.rewritten, ByteAt.value, ByteAt.addr,
      record_setF, withMem_setF, readBy])

theorem finishesAs_rmwAtXy {xy : XY} {d : Byte} (hp : programOf i = rmwAtXy xy d op) (s : State) :
    FinishesAs i s ((ByteAt.indexed xy d).rewritten (g s.cfg ((ByteAt.indexed xy d).value s) s.regs.f) s) :=
  finishesAs_of_runSteps hp (by
    simp [rmwAtXy, runSteps_cons, runSteps_last, formAddress, ho _ _ _, ByteAt.rewritten, ByteAt.value, ByteAt.addr,
      record_setF, withMem_setF, readBy])

theorem finishesAs_rmwXyCb {xy : XY} {d : Byte} {copy : Option R8} (hp : programOf i = rmwXyCb xy d copy op)
    (s : State) :
    let r := g s.cfg ((ByteAt.indexed xy d).value s) s.regs.f
    FinishesAs i s (copyResult copy r.1 ((ByteAt.indexed xy d).rewritten r s)) :=
  finishesAs_of_runSteps hp (by
    cases copy <;>
    simp [rmwXyCb, runSteps_cons, runSteps_last, formAddress, ho _ _ _, ByteAt.rewritten, ByteAt.value, ByteAt.addr,
      record_setF, withMem_setF, readBy, copyResult])

end

/-! ### The forms of an operation on memory -/

/-- The operation on the operand, as INC and DEC do it. -/
def ByteAt.rmw (g : ByteAt) (op : Rmw) : Program :=
  match g with
  | .hl => rmwAtHl op
  | .indexed xy d => rmwAtXy xy d op

/-- The operation on the operand, as the CB tables do it. -/
def ByteAt.rmwCb (g : ByteAt) (op : Rmw) : Program :=
  match g with
  | .hl => rmwAtHl op
  | .indexed xy d => rmwXyCb xy d none op

section
variable {i : Instr} {op : Rmw} {r : Config → Byte → Byte → Byte × Byte} (ho : RmwIs op r)
include ho

theorem finishesAs_byteAt_rmw {g : ByteAt} (hp : programOf i = g.rmw op) (s : State) :
    FinishesAs i s (g.rewritten (r s.cfg (g.value s) s.regs.f) s) := by
  cases g with
  | hl => exact finishesAs_rmwAtHl ho hp s
  | indexed xy d => exact finishesAs_rmwAtXy ho hp s

theorem finishesAs_byteAt_rmwCb {g : ByteAt} (hp : programOf i = g.rmwCb op) (s : State) :
    FinishesAs i s (g.rewritten (r s.cfg (g.value s) s.regs.f) s) := by
  cases g with
  | hl => exact finishesAs_rmwAtHl ho hp s
  | indexed xy d => exact finishesAs_rmwXyCb (copy := none) ho hp s

end

/-- What an operation on memory leaves, its memory given apart. -/
theorem FinishesAs.rewritten {i : Instr} {g : ByteAt} {r : Byte × Byte} {s : State} (h : FinishesAs i s (g.rewritten r s)) :
    ∃ t, exec i s = .next t
      ∧ ({ t with mem := s.mem } : State).arch = (finished (setF r.2 (g.rewrittenBy r.1 s))).arch
      ∧ Machine.storedByte s.mem t.mem (g.addr s) r.1 :=
  h.storedByte rfl

/-- The same with a copy of the result in a register. -/
theorem FinishesAs.rewrittenCopy {i : Instr} {g : ByteAt} {r : Byte × Byte} {s : State} {q : R8}
    (h : FinishesAs i s (setR q r.1 (g.rewritten r s))) :
    ∃ t, exec i s = .next t
      ∧ ({ t with mem := s.mem } : State).arch = (finished (setR q r.1 (setF r.2 (g.rewrittenBy r.1 s)))).arch
      ∧ Machine.storedByte s.mem t.mem (g.addr s) r.1 := by
  have hmem : (setR q r.1 (g.rewritten r s)).mem = s.mem.write (g.addr s) r.1 := setR_mem ..
  have hwith : withMem s.mem (setR q r.1 (g.rewritten r s)) = setR q r.1 (setF r.2 (g.rewrittenBy r.1 s)) := by
    cases q <;> rfl
  have hs := h.storedByte hmem
  rwa [hwith] at hs

theorem programOf_byteAt_inc (g : ByteAt) : programOf g.inc = g.rmw applyInc8 := by
  cases g with
  | hl => rfl
  | indexed xy d => cases xy <;> rfl

theorem programOf_byteAt_dec (g : ByteAt) : programOf g.dec = g.rmw applyDec8 := by
  cases g with
  | hl => rfl
  | indexed xy d => cases xy <;> rfl

/-! ### The rotates (spec/41_flag_alu_engine.md R459) -/

theorem exists_rotCode (y : BitVec 3) : ∃ k, rotCode k = y := by
  cases y using octalCases with
  | y0 => exact ⟨.rlc, rfl⟩
  | y1 => exact ⟨.rrc, rfl⟩
  | y2 => exact ⟨.rl, rfl⟩
  | y3 => exact ⟨.rr, rfl⟩
  | y4 => exact ⟨.sla, rfl⟩
  | y5 => exact ⟨.sra, rfl⟩
  | y6 => exact ⟨.sll, rfl⟩
  | y7 => exact ⟨.srl, rfl⟩

/-- `rot` packs the full flag set of R459. -/
theorem rot_flags (k : RotOp) (v f0 : Byte) :
    let res := rotated (rotCode k) v (flagC f0)
    let f := (rot k v f0).2
    (rot k v f0).1 = res ∧ resultFlags f res ∧ flagPV f = evenBits res ∧ flagH f = false ∧ flagN f = false
      ∧ flagC f = rotatedOut (rotCode k) v := by
  unfold rot
  rw [rotate_eq_rotated]
  exact ⟨rfl, resultFlags_mkF .., (flagPV_mkF ..).trans (parity_eq_evenBits _), flagH_mkF .., flagN_mkF ..,
    flagC_mkF ..⟩

theorem programOf_rotRegister (k : RotOp) (r : R8) :
    programOf (rotRegister (rotCode k) r) = single (fun s => applyRot k (getR r s) (setR r) s) := by
  cases k <;> rfl

theorem programOf_byteAt_rotate (g : ByteAt) (k : RotOp) : programOf (g.rotate (rotCode k)) = g.rmwCb (applyRot k) := by
  cases g with
  | hl => cases k <;> rfl
  | indexed xy d => cases xy <;> cases k <;> rfl

theorem programOf_rotIndexedCopy (xy : XY) (d : Byte) (k : RotOp) (r : R8) :
    programOf (rotIndexedCopy xy (rotCode k) d r) = rmwXyCb xy d (some r) (applyRot k) := by
  cases xy <;> cases k <;> rfl

/-! ### RES and SET (spec/46_rotate_bit.md R684, R685) -/

/-- The mask of one bit. -/
theorem getLsbD_mask (y : BitVec 3) (k : Nat) : ((1 : Byte) <<< y.toNat).getLsbD k = decide (k = y.toNat) := by
  have hy : y.toNat < 8 := y.isLt
  change ((1#8) <<< y.toNat).getLsbD k = _
  rw [BitVec.getLsbD_shiftLeft, BitVec.getLsbD_one, Bool.eq_iff_iff]
  simp only [Bool.and_eq_true, Bool.not_eq_true', decide_eq_true_eq, decide_eq_false_iff_not]
  omega

theorem getLsbD_resBit (y : BitVec 3) (v : Byte) (k : Nat) :
    (resBit y v).getLsbD k = if k = y.toNat then false else v.getLsbD k := by
  rw [resBit, BitVec.getLsbD_and, BitVec.getLsbD_not, getLsbD_mask]
  by_cases h : k = y.toNat
  · simp [h]
  · by_cases hk : k < 8
    · simp [h, hk]
    · simp [h, hk, BitVec.getLsbD_of_ge v k (by omega)]

theorem getLsbD_setBit (y : BitVec 3) (v : Byte) (k : Nat) :
    (setBit y v).getLsbD k = if k = y.toNat then true else v.getLsbD k := by
  rw [setBit, BitVec.getLsbD_or, getLsbD_mask]
  by_cases h : k = y.toNat <;> simp [h]

theorem programOf_resAtXyR (xy : XY) (b : BitVec 3) (d : Byte) (r : R8) :
    programOf (pick xy (.resAtIxR b d r) (.resAtIyR b d r)) = rmwXyCb xy d (some r) (applyRes b) := by
  cases xy <;> rfl

theorem programOf_setAtXyR (xy : XY) (b : BitVec 3) (d : Byte) (r : R8) :
    programOf (pick xy (.setAtIxR b d r) (.setAtIyR b d r)) = rmwXyCb xy d (some r) (applySet b) := by
  cases xy <;> rfl

theorem programOf_byteAt_resOrSet (g : ByteAt) (b : BitVec 3) :
    programOf (g.resOrSet false b) = g.rmwCb (applyRes b) ∧ programOf (g.resOrSet true b) = g.rmwCb (applySet b) := by
  cases g with
  | hl => exact ⟨rfl, rfl⟩
  | indexed xy d => cases xy <;> exact ⟨rfl, rfl⟩

/-! ### RLD and RRD (spec/46_rotate_bit.md R686, R687) -/

/-- Two digits side by side. -/
theorem or_eq_digits (p q : Nat) (hp : p < 16) (hq : q < 16) :
    BitVec.ofNat 8 (16 * p) ||| BitVec.ofNat 8 q = BitVec.ofNat 8 (16 * p + q) := by
  have h : ∀ p q : Fin 16, BitVec.ofNat 8 (16 * p) ||| BitVec.ofNat 8 q = BitVec.ofNat 8 (16 * p + q) := by decide
  exact h ⟨p, hp⟩ ⟨q, hq⟩

/-- The digits of a byte, masked and shifted. -/
theorem digits_of_byte (v : Byte) :
    v &&& 0x0F#8 = BitVec.ofNat 8 (v.toNat % 16) ∧ v >>> 4 = BitVec.ofNat 8 (v.toNat / 16)
      ∧ v &&& 0xF0#8 = BitVec.ofNat 8 (16 * (v.toNat / 16))
      ∧ (v <<< 4) &&& 0xF0#8 = BitVec.ofNat 8 (16 * (v.toNat % 16))
      ∧ (v &&& 0x0F#8) <<< 4 = BitVec.ofNat 8 (16 * (v.toNat % 16)) := by
  revert v
  decide

/-- RLD turns the digits left. -/
theorem rld_eq_digits (a m : Byte) :
    rldMemory a m = BitVec.ofNat 8 (16 * (m.toNat % 16) + a.toNat % 16)
      ∧ rldAccumulator a m = BitVec.ofNat 8 (16 * (a.toNat / 16) + m.toNat / 16) := by
  obtain ⟨halow, -, hahigh, -, -⟩ := digits_of_byte a
  obtain ⟨-, hmhigh, -, hmlow, -⟩ := digits_of_byte m
  have ha := a.isLt
  have hm := m.isLt
  rw [rldMemory, rldAccumulator, halow, hahigh, hmhigh, hmlow]
  exact ⟨or_eq_digits _ _ (by omega) (by omega), or_eq_digits _ _ (by omega) (by omega)⟩

/-- RRD turns the digits right. -/
theorem rrd_eq_digits (a m : Byte) :
    rrdMemory a m = BitVec.ofNat 8 (16 * (a.toNat % 16) + m.toNat / 16)
      ∧ rrdAccumulator a m = BitVec.ofNat 8 (16 * (a.toNat / 16) + m.toNat % 16) := by
  obtain ⟨-, -, hahigh, -, halow⟩ := digits_of_byte a
  obtain ⟨hmlow, hmhigh, -, -, -⟩ := digits_of_byte m
  have ha := a.isLt
  have hm := m.isLt
  rw [rrdMemory, rrdAccumulator, halow, hahigh, hmhigh, hmlow]
  exact ⟨or_eq_digits _ _ (by omega) (by omega), or_eq_digits _ _ (by omega) (by omega)⟩

theorem finishesAs_digitRotate {i : Instr} {memory accumulator : Byte → Byte → Byte}
    (hp : programOf i = digitRotate memory accumulator) (s : State) :
    let v := memAnswer s.hl s
    let res := accumulator s.regs.a v
    FinishesAs i s (setR .a res (ByteAt.hl.rewritten (memory s.regs.a v, szp res (parity res) s.regs.f) s)) :=
  finishesAs_of_runSteps hp (by
    simp [digitRotate, runSteps_cons, runSteps_last, applySzp, ByteAt.rewritten, ByteAt.addr, readBy, setF_setR])

/-- What a digit rotate leaves, its memory and the flags given apart. -/
theorem digitRotate_stores {i : Instr} {memory accumulator : Byte → Byte → Byte}
    (hp : programOf i = digitRotate memory accumulator) (s : State) :
    let stored := memory s.regs.a (memAnswer s.hl s)
    let res := accumulator s.regs.a (memAnswer s.hl s)
    ∃ t f, exec i s = .next t
      ∧ ({ t with mem := s.mem } : State).arch = (finished (setR .a res (setF f (ByteAt.hl.rewrittenBy stored s)))).arch
      ∧ storedByte s.mem t.mem s.hl stored
      ∧ resultFlags f res ∧ flagPV f = evenBits res ∧ flagH f = false ∧ flagN f = false
      ∧ flagC f = flagC s.regs.f := by
  intro stored res
  obtain ⟨t, ht, harch, hmem⟩ := (finishesAs_digitRotate hp s).storedByte rfl
  obtain ⟨hres, hpv, hh, hn, hcarry⟩ := szp_flags res (parity res) s.regs.f
  exact ⟨t, _, ht, harch, hmem, hres, hpv.trans (parity_eq_evenBits res), hh, hn, hcarry⟩

end Sys2Proof.Machine

namespace Sys2Proof.Settled
open Machine

/-- Settles O20: the operand read, `inc8` or `dec8` of it, and the result written back. -/
theorem incDecMemory : Obligations.IncDecMemory := by
  intro g s
  obtain ⟨t, ht, harch, hmem⟩ := (finishesAs_byteAt_rmw rmwIs_inc8 (programOf_byteAt_inc g) s).rewritten
  obtain ⟨u, hu, huarch, humem⟩ := (finishesAs_byteAt_rmw rmwIs_dec8 (programOf_byteAt_dec g) s).rewritten
  exact ⟨⟨t, _, ht, harch, hmem, inc8_flags ..⟩, ⟨u, _, hu, huarch, humem, dec8_flags ..⟩⟩

/-- Settles O34: `rot` of the register. -/
theorem rotateRegister : Obligations.RotateRegister := by
  intro y r s
  obtain ⟨k, rfl⟩ := exists_rotCode y
  obtain ⟨t, ht, harch⟩ := finishesAs_single (programOf_rotRegister k r)
    (archFn_of_commutes fun s => by simp [applyRot]) s
  obtain ⟨hres, hflags⟩ := rot_flags k (getR r s) s.regs.f
  refine ⟨t, _, ht, ?_, hflags⟩
  rw [harch, ← hres]
  rfl

/-- Settles O35: `rot` of the operand, written back and, in the copying forms, into a register. -/
theorem rotateMemory : Obligations.RotateMemory := by
  refine ⟨fun g y s => ?_, fun xy d y r s => ?_⟩
  · obtain ⟨k, rfl⟩ := exists_rotCode y
    obtain ⟨t, ht, harch, hmem⟩ :=
      (finishesAs_byteAt_rmwCb (rmwIs_rot k) (programOf_byteAt_rotate g k) s).rewritten
    obtain ⟨hres, hflags⟩ := rot_flags k (g.value s) s.regs.f
    exact ⟨t, _, ht, hres ▸ harch, hres ▸ hmem, hflags⟩
  · obtain ⟨k, rfl⟩ := exists_rotCode y
    obtain ⟨t, ht, harch, hmem⟩ := FinishesAs.rewrittenCopy
      (finishesAs_rmwXyCb (copy := some r) (rmwIs_rot k) (programOf_rotIndexedCopy xy d k r) s)
    obtain ⟨hres, hflags⟩ := rot_flags k ((ByteAt.indexed xy d).value s) s.regs.f
    exact ⟨t, _, ht, hres ▸ harch, hres ▸ hmem, hflags⟩

/-- Settles O37: `resBit` and `setBit` of the register or the operand; F is put back as it was. -/
theorem resAndSet : Obligations.ResAndSet := by
  refine ⟨fun r b s => ⟨?_, ?_⟩, fun g set b s => ?_, fun xy b d r s => ⟨?_, ?_⟩⟩
  · obtain ⟨t, ht, harch⟩ := finishesAs_single (i := .resR b r) (f := fun s => setR r (resBit b (getR r s)) s) rfl
      (archFn_of_commutes fun s => by simp) s
    exact ⟨t, _, ht, harch, getLsbD_resBit b _⟩
  · obtain ⟨t, ht, harch⟩ := finishesAs_single (i := .setR b r) (f := fun s => setR r (setBit b (getR r s)) s) rfl
      (archFn_of_commutes fun s => by simp) s
    exact ⟨t, _, ht, harch, getLsbD_setBit b _⟩
  · obtain ⟨hres, hset⟩ := programOf_byteAt_resOrSet g b
    cases set
    · obtain ⟨t, ht, harch, hmem⟩ := (finishesAs_byteAt_rmwCb (rmwIs_res b) hres s).rewritten
      exact ⟨t, _, ht, harch, hmem, getLsbD_resBit b _⟩
    · obtain ⟨t, ht, harch, hmem⟩ := (finishesAs_byteAt_rmwCb (rmwIs_set b) hset s).rewritten
      exact ⟨t, _, ht, harch, hmem, getLsbD_setBit b _⟩
  · obtain ⟨t, ht, harch, hmem⟩ := FinishesAs.rewrittenCopy
      (finishesAs_rmwXyCb (rmwIs_res b) (programOf_resAtXyR xy b d r) s)
    exact ⟨t, _, ht, harch, hmem, getLsbD_resBit b _⟩
  · obtain ⟨t, ht, harch, hmem⟩ := FinishesAs.rewrittenCopy
      (finishesAs_rmwXyCb (rmwIs_set b) (programOf_setAtXyR xy b d r) s)
    exact ⟨t, _, ht, harch, hmem, getLsbD_setBit b _⟩

/-- Settles O38: the masks and shifts of RLD and RRD are the digits of the two bytes. -/
theorem digitRotates : Obligations.DigitRotates := by
  intro s
  obtain ⟨hlm, hla⟩ := rld_eq_digits s.regs.a (memAnswer s.hl s)
  obtain ⟨hrm, hra⟩ := rrd_eq_digits s.regs.a (memAnswer s.hl s)
  have hl := digitRotate_stores (i := .rld) rfl s
  have hr := digitRotate_stores (i := .rrd) rfl s
  rw [hlm, hla] at hl
  rw [hrm, hra] at hr
  exact ⟨hl, hr⟩

end Sys2Proof.Settled
end

section
/-! PROOFS. The stack and control transfer (spec/45_stack_control.md, spec/20_memory.md R205). -/

namespace Sys2Proof.Machine

/-! ### A pair stored in `PUSH_ORDER` -/

/-- The low byte of `v` stored at `a` and the high byte at `b`, in `PUSH_ORDER`. -/
def pairStored (a b v : Word) (s : State) : State :=
  match s.cfg.pushOrder with
  | .lowFirst => storeMemory b (hi8 v) (storeMemory a (lo8 v) s)
  | .highFirst => storeMemory a (lo8 v) (storeMemory b (hi8 v) s)

@[simp] theorem pairStored_regs (a b v : Word) (s : State) : (pairStored a b v s).regs = s.regs := by
  unfold pairStored; split <;> rfl

/-- In either order the pair is stored. -/
theorem storedPair_pairStored (a v : Word) (s : State) : storedPair s.mem (pairStored a (a + 1) v s).mem a v := by
  unfold pairStored
  split
  · exact storedPair_lowFirst _ _ _
  · exact storedPair_highFirst _ _ _

/-- The record of a push is that of the pair stored. -/
theorem withMem_pairStored_push (v : Word) (s : State) :
    withMem s.mem (pairStored (s.regs.sp - 2) (s.regs.sp - 1) v s) = pushedBy v s := by
  cases h : s.cfg.pushOrder <;> simp only [pairStored, pushedBy, h] <;> rfl

theorem sub_two_add_one (w : Word) : w - 2 + 1 = w - 1 := by bv_omega

/-! ### Push and pop -/

/-- A value that rests on the registers, WZ apart. -/
def ReadsRegs (v : State → Word) : Prop := ∀ ⦃s t : State⦄, s.arch.regs = t.arch.regs → v s = v t

/-- What a push leaves of `s`. -/
def pushed (v : Word) (s : State) : State := setSp (s.regs.sp - 2) (pairStored (s.regs.sp - 2) (s.regs.sp - 1) v s)

/-- What a pop leaves of `s`, its value apart. -/
def popped (s : State) : State := setSp (s.regs.sp + 2) (poppedBy s)

theorem arch_runSteps_pushRest {v : State → Word} {after : StepFn} (hv : ReadsRegs v) (hf : ArchFn after)
    (s : State) :
    (runSteps (pushRest v after) (busCycle (reqPushFirst (v (holdFor 1 (settle s))) (holdFor 1 (settle s))))).arch
      = (finished (after (pushed (v s) s))).arch := by
  have hsettled : v (holdFor 1 (settle s)) = v s := hv rfl
  have hwritten (a : Word) (b : Byte) : v (busCycle (reqWrite a b (holdFor 1 (settle s)))) = v s := hv rfl
  cases h : s.cfg.pushOrder with
  | lowFirst =>
    have hafter := hf (s := setSp (s.regs.sp - 2) (busCycle (reqWrite (s.regs.sp - 1) (hi8 (v s)) (busCycle
      (reqWrite (s.regs.sp - 2) (lo8 (v s)) (holdFor 1 (settle s))))))) (t := pushed (v s) s)
        (by simp [pushed, pairStored, h])
    simpa [pushRest, reqPushFirst, reqPushSecond, runSteps_cons, runSteps_last, h, hsettled, hwritten] using
      congrArg finished hafter
  | highFirst =>
    have hafter := hf (s := setSp (s.regs.sp - 2) (busCycle (reqWrite (s.regs.sp - 2) (lo8 (v s)) (busCycle
      (reqWrite (s.regs.sp - 1) (hi8 (v s)) (holdFor 1 (settle s))))))) (t := pushed (v s) s)
        (by simp [pushed, pairStored, h])
    simpa [pushRest, reqPushFirst, reqPushSecond, runSteps_cons, runSteps_last, h, hsettled, hwritten] using
      congrArg finished hafter

theorem arch_runSteps_popRest {put : Word → StepFn} (hf : ∀ v, ArchFn (put v)) {x s : State}
    (hx : x.arch = s.arch) :
    (runSteps (popRest put) (busCycle (reqRead x.regs.sp x))).arch = (finished (put s.top (popped s))).arch := by
  have hsp : x.regs.sp = s.regs.sp := congrArg (fun u => u.regs.sp) hx
  have hanswer (a : Word) : memAnswer a x = memAnswer a s := by rw [← memAnswer_arch, hx, memAnswer_arch]
  have hnext (a : Word) : upcoming 1 a x = upcoming 1 a s := by rw [← upcoming_arch, hx, upcoming_arch]
  have hput := hf s.top (s := setSp (s.regs.sp + 2) (busCycle (reqRead (s.regs.sp + 1) (takeLow (busCycle
    (reqRead s.regs.sp x)))))) (t := popped s) (by simp [popped, poppedBy, readBy, hx, hanswer, hnext])
  simpa [popRest, runSteps_cons, runSteps_last, hsp, hanswer, hnext, takeLow, State.top] using congrArg finished hput

theorem reqPushFirst_done (v : Word) (s : State) : (reqPushFirst v s).seq.done = s.seq.done := by
  unfold reqPushFirst; split <;> rfl

theorem arch_runSteps_pushThen {v : State → Word} {after : StepFn} (hv : ReadsRegs v) (hf : ArchFn after)
    (s : State) :
    (runSteps (pushThen v after) (settle s)).arch = (finished (after (pushed (v s) s))).arch := by
  have hval : v (holdFor 1 (settle s)) = v (settle s) := hv rfl
  have hrun := arch_runSteps_pushRest hv hf s
  rw [hval] at hrun
  exact (congrArg State.arch (runSteps_of_running (reqPushFirst_done ..))).trans hrun

theorem finishesAs_pushThen {i : Instr} {v : State → Word} {after : StepFn} (hp : programOf i = pushThen v after)
    (hv : ReadsRegs v) (hf : ArchFn after) (s : State) : FinishesAs i s (after (pushed (v s) s)) :=
  finishesAs_of_runSteps hp (arch_runSteps_pushThen hv hf s)

theorem finishesAs_popInto {i : Instr} {put : Word → StepFn} (hp : programOf i = popInto put)
    (hf : ∀ v, ArchFn (put v)) (s : State) : FinishesAs i s (put s.top (popped s)) :=
  finishesAs_of_runSteps hp (arch_runSteps_popRest hf (arch_settle s))

/-- What a push leaves, its memory given apart. -/
theorem FinishesAs.pushedApart {i : Instr} {v : Word} {after : StepFn} {s : State}
    (h : FinishesAs i s (after (pushed v s))) (hmem : ∀ u, (after u).mem = u.mem)
    (hwith : ∀ m u, withMem m (after u) = after (withMem m u)) :
    ∃ t, exec i s = .next t
      ∧ ({ t with mem := s.mem } : State).arch = (finished (after (setSp (s.regs.sp - 2) (pushedBy v s)))).arch
      ∧ Machine.storedPair s.mem t.mem (s.regs.sp - 2) v := by
  have hpair : Machine.storedPair s.mem (after (pushed v s)).mem (s.regs.sp - 2) v := by
    rw [hmem, pushed, ← sub_two_add_one]
    exact storedPair_pairStored _ _ s
  have hrecord : withMem s.mem (pushed v s) = setSp (s.regs.sp - 2) (pushedBy v s) := by
    rw [← withMem_pairStored_push]
    rfl
  have h := h.storedPair hpair
  rwa [hwith, hrecord] at h

/-! ### The pairs of PUSH and POP -/

@[simp] theorem getRp2_setRp2_self (rp2 : RP2) (v : Word) (s : State) : getRp2 rp2 (setRp2 rp2 v s) = v := by
  cases rp2 <;> exact mk16_hi8_lo8 v

section
variable (g : StackReg)

@[simp] theorem arch_StackReg_set (v : Word) (s : State) : (g.set v s).arch = g.set v s.arch := by
  cases g with
  | main rp2 => exact arch_setRp2 rp2 v s
  | index xy => exact arch_setX xy v s

theorem StackReg.readsRegs : ReadsRegs g.get := fun s t h => by
  cases g with
  | main rp2 =>
    have hget := congrArg (fun r : Regs => getRp2 rp2 { s with regs := r }) h
    cases rp2 <;> exact hget
  | index xy =>
    have hget := congrArg (fun r : Regs => getX xy { s with regs := r }) h
    cases xy <;> exact hget

@[simp] theorem StackReg.get_arch (s : State) : g.get s.arch = g.get s := g.readsRegs rfl

@[simp] theorem StackReg.get_set (v : Word) (s : State) : g.get (g.set v s) = v := by
  cases g with
  | main rp2 => exact getRp2_setRp2_self rp2 v s
  | index xy => exact getX_setX_self xy v s

@[simp] theorem StackReg.set_sp (v : Word) (s : State) : (g.set v s).regs.sp = s.regs.sp := by
  cases g with
  | main rp2 => cases rp2 <;> rfl
  | index xy => cases xy <;> rfl

@[simp] theorem StackReg.set_mem (v : Word) (s : State) : (g.set v s).mem = s.mem := by
  cases g with
  | main rp2 => cases rp2 <;> rfl
  | index xy => cases xy <;> rfl

theorem programOf_push : programOf g.push = pushThen g.get (fun s => s) := by
  cases g with
  | main rp2 => rfl
  | index xy => cases xy <;> rfl

theorem programOf_pop : programOf g.pop = popInto g.set := by
  cases g with
  | main rp2 => rfl
  | index xy => cases xy <;> rfl

end

/-- The word at the top of the stack, answered from memory. -/
theorem top_of_storedPair {before : Memory} {v : Word} {s : State} (htape : s.memTape = [])
    (h : storedPair before s.mem s.regs.sp v) : s.top = v := by
  have hlow : memAnswer s.regs.sp s = lo8 v := by rw [memAnswer_ram htape, h]; simp
  have hhigh : memAnswer (s.regs.sp + 1) (readBy s.regs.sp s) = hi8 v := by
    have hnext : (readBy s.regs.sp s).memTape = [] := by simp [readBy, htape]
    rw [memAnswer_ram hnext, readBy_mem, h]
    simp
  rw [State.top, hlow, hhigh, mk16_hi8_lo8]

/-! ### EX (SP),HL and its index forms (spec/47_exchange_block.md R723) -/

theorem withMem_pairStored_exchange (v : Word) (s : State) :
    withMem s.mem (pairStored s.regs.sp (s.regs.sp + 1) v (poppedBy s)) = exchangedBy v s := by
  have hcfg : (poppedBy s).cfg = s.cfg := rfl
  cases h : s.cfg.pushOrder <;> simp only [pairStored, exchangedBy, hcfg, h] <;> rfl

/-- The state in which an exchange has read the top of the stack into WZ. -/
def exchangeRead (s : State) : State :=
  takeHigh (busCycle (reqRead (s.regs.sp + 1) (takeLow (busCycle (reqRead s.regs.sp (settle s))))))

theorem arch_exchangeRead (s : State) : (exchangeRead s).arch = (poppedBy s).arch := by
  simp [exchangeRead, poppedBy, readBy]
theorem exchangeRead_wz (s : State) : (exchangeRead s).regs.wz = s.top := by
  simp [exchangeRead, takeHigh, takeLow, State.top]

/-- The steps of an exchange after its two READs. -/
def exchangeWrites (get : State → Word) (put : Word → StepFn) : Program :=
  [ fun s => reqExchangeFirst (get s) (holdFor 1 s),
    fun s => reqExchangeSecond (get s) s,
    fun s => signalDone (put s.regs.wz (holdFor 2 s)) ]

theorem runSteps_exchangeAtSp {get : State → Word} (hg : ReadsRegs get) (put : Word → StepFn) (s : State) :
    runSteps (exchangeAtSp get put) (settle s) = runSteps (exchangeWrites get put) (exchangeRead s) := by
  have hget (s : State) : get s = get (takeHigh s) := hg rfl
  rw [exchangeAtSp, runSteps_of_running rfl, runSteps_of_running rfl, runSteps_cons, hget]
  rfl

theorem arch_runSteps_exchangeWrites {get : State → Word} {put : Word → StepFn} (hg : ReadsRegs get)
    (hf : ∀ v, ArchFn (put v)) {x u : State} (hx : x.arch = u.arch) (hd : x.seq.done = false) :
    (runSteps (exchangeWrites get put) x).arch
      = (finished (put x.regs.wz (pairStored u.regs.sp (u.regs.sp + 1) (get u) u))).arch := by
  have hcfg : x.cfg = u.cfg := congrArg (fun u => u.cfg) hx
  have hmem : x.mem = u.mem := congrArg (fun u => u.mem) hx
  have hsp : x.regs.sp = u.regs.sp := congrArg (fun u => u.regs.sp) hx
  have hget : get x = get u := hg (congrArg (fun u => u.regs) hx)
  have hheld : get (holdFor 1 x) = get u := (hg (s := holdFor 1 x) (t := x) rfl).trans hget
  have hwritten (a : Word) (v : Byte) : get (busCycle (reqWrite a v (holdFor 1 x))) = get u :=
    (hg (s := busCycle (reqWrite a v (holdFor 1 x))) (t := x) rfl).trans hget
  cases h : u.cfg.pushOrder with
  | lowFirst =>
    have hput := hf x.regs.wz (s := holdFor 2 (busCycle (reqWrite (u.regs.sp + 1) (hi8 (get u)) (busCycle
      (reqWrite u.regs.sp (lo8 (get u)) (holdFor 1 x)))))) (t := pairStored u.regs.sp (u.regs.sp + 1) (get u) u)
        (by simp [pairStored, h, hmem, hx])
    simpa [exchangeWrites, reqExchangeFirst, reqExchangeSecond, runSteps_cons, runSteps_last, h, hcfg, hsp, hget, hheld,
      hwritten, hd] using congrArg finished hput
  | highFirst =>
    have hput := hf x.regs.wz (s := holdFor 2 (busCycle (reqWrite u.regs.sp (lo8 (get u)) (busCycle
      (reqWrite (u.regs.sp + 1) (hi8 (get u)) (holdFor 1 x)))))) (t := pairStored u.regs.sp (u.regs.sp + 1) (get u) u)
        (by simp [pairStored, h, hmem, hx])
    simpa [exchangeWrites, reqExchangeFirst, reqExchangeSecond, runSteps_cons, runSteps_last, h, hcfg, hsp, hget, hheld,
      hwritten, hd] using congrArg finished hput

theorem finishesAs_exchangeAtSp {i : Instr} {get : State → Word} {put : Word → StepFn}
    (hp : programOf i = exchangeAtSp get put) (hg : ReadsRegs get) (hf : ∀ v, ArchFn (put v)) (s : State) :
    FinishesAs i s (put s.top (pairStored s.regs.sp (s.regs.sp + 1) (get s) (poppedBy s))) :=
  finishesAs_of_runSteps hp (by
    have hget : get (poppedBy s) = get s := hg rfl
    rw [runSteps_exchangeAtSp hg, arch_runSteps_exchangeWrites hg hf (arch_exchangeRead s) rfl, exchangeRead_wz, hget]
    rfl)

/-- What an exchange leaves, its memory given apart. -/
theorem FinishesAs.exchangedApart {i : Instr} {v : Word} {put : StepFn} {s : State}
    (h : FinishesAs i s (put (pairStored s.regs.sp (s.regs.sp + 1) v (poppedBy s)))) (hmem : ∀ u, (put u).mem = u.mem)
    (hwith : ∀ m u, withMem m (put u) = put (withMem m u)) :
    ∃ t, exec i s = .next t ∧ ({ t with mem := s.mem } : State).arch = (finished (put (exchangedBy v s))).arch
      ∧ Machine.storedPair s.mem t.mem s.regs.sp v := by
  have hpair : Machine.storedPair s.mem (put (pairStored s.regs.sp (s.regs.sp + 1) v (poppedBy s))).mem
      s.regs.sp v := by
    rw [hmem]
    exact storedPair_pairStored _ _ (poppedBy s)
  have h := h.storedPair hpair
  rwa [hwith, withMem_pairStored_exchange] at h

/-! ### Branches -/

theorem condition_eq (cc : CC) (s : State) : condition cc s = cond s.cfg cc s.regs.f := rfl
theorem condition_arch (cc : CC) (s : State) : condition cc s.arch = condition cc s := rfl

/-- A step that either is done or, after five T-states, goes on to one more. -/
theorem finishesAs_branch {i : Instr} {f g : StepFn} {taken : State → Bool}
    (hp : programOf i = [fun s => if taken (f s) then reqExec 5 (f s) else signalDone (f s), fun s => signalDone (g s)])
    (hf : ∀ s, (f s).arch = f s.arch) (hd : ∀ s, (f s).seq.done = s.seq.done) (ht : ∀ s, taken s.arch = taken s)
    (hg : ArchFn g) (s : State) : FinishesAs i s (if taken (f s) then g (f s) else f s) :=
  finishesAs_of_runSteps hp (by
    have hfs : (f (settle s)).arch = (f s).arch := by rw [hf, hf, arch_settle]
    have hts : taken (f (settle s)) = taken (f s) := by rw [← ht, hfs, ht]
    cases h : taken (f s) with
    | false => simp [runSteps_cons, h, hts, hfs]
    | true =>
      have hgs : (g (busCycle (reqExec 5 (f (settle s))))).arch = (g (f s)).arch := hg (by simp [hfs])
      simp [runSteps_cons, runSteps_last, h, hts, hd, hgs])

/-- The signed displacement added to PC (R624). -/
theorem jumpRelative_eq (e : Byte) (s : State) :
    jumpRelative e s = setPc (BitVec.ofInt 16 ((s.regs.pc.toNat : Int) + e.toInt)) s := by
  rw [jumpRelative, sext16, BitVec.ofInt_add]
  simp [BitVec.signExtend]

theorem programOf_djnz (e : Byte) :
    programOf (.djnz e) =
      [ fun s => if (setR .b (s.regs.b - 1) s).regs.b != 0 then reqExec 5 (setR .b (s.regs.b - 1) s)
          else signalDone (setR .b (s.regs.b - 1) s),
        fun s => signalDone (jumpRelative e s) ] := by
  simp only [bne_iff_ne, ne_eq, ite_not]
  rfl

/-- The count reaches 0 from 1. -/
theorem counted_ne_zero (b : Byte) : (b - 1 != 0) = !decide (b = 1) := by
  have h : b - 1 = 0 ↔ b = 1 := sub_eq_zero
  simp only [bne, beq_eq_decide, h]

/-- The first step decides by what it does in the state at hand. -/
theorem runSteps_congr_head {f f' g : StepFn} {rest : Program} {s : State} (h : f s = f' s) :
    runSteps (f :: g :: rest) s = runSteps (f' :: g :: rest) s := by
  rw [runSteps_cons, runSteps_cons, h]

/-- CALL cc with a true condition runs the steps of CALL. -/
theorem finishesAs_callCc_true {cc : CC} {s : State} (h : condition cc s = true) (nn : Word) :
    FinishesAs (.callCcNn cc nn) s (setPc nn (pushed s.regs.pc s)) := by
  have hv : ReadsRegs (fun s => s.regs.pc) := fun s t h => congrArg (fun r => r.pc) h
  have hcond : condition cc (settle s) = true := h
  refine finishesAs_of_runSteps rfl ?_
  rw [← arch_runSteps_pushThen hv (archFn_of_commutes (arch_setPc nn))]
  exact congrArg State.arch (runSteps_congr_head (if_pos hcond))

/-- CALL cc with a false condition is done at once. -/
theorem finishesAs_callCc_false {cc : CC} {s : State} (h : condition cc s = false) (nn : Word) :
    FinishesAs (.callCcNn cc nn) s s :=
  finishesAs_of_runSteps (p := progCallCcNn cc nn) rfl (by simp [progCallCcNn, pushRest, runSteps_cons, h])

/-- RET cc pops PC where its condition is true. -/
theorem finishesAs_retCc (cc : CC) (s : State) :
    FinishesAs (.retCc cc) s (if condition cc s then setPc s.top (popped s) else s) := by
  refine finishesAs_of_runSteps (p := progRetCc cc) rfl ?_
  have hcond : condition cc (holdFor 1 (settle s)) = condition cc s := rfl
  cases h : condition cc s with
  | false => simp [progRetCc, popRest, runSteps_cons, h]
  | true =>
    rw [if_pos rfl, ← arch_runSteps_popRest (put := setPc) (x := holdFor 1 (settle s))
      (fun v => archFn_of_commutes (arch_setPc v)) (by simp)]
    rw [progRetCc, popRest, runSteps_cons]
    simp [h]

theorem programOf_jrCc (cc : JCC) (e : Byte) :
    programOf (.jrCc cc e) =
      [ fun s => if condition (jumpCondition cc) s then reqExec 5 s else signalDone s,
        fun s => signalDone (jumpRelative e s) ] := rfl

/-! ### The lengths of the cycles (spec/40_step_machine.md R407) -/

/-- A branch records its five T-states where it is taken. -/
theorem bus_runSteps_branch {f g : StepFn} {taken : State → Bool} {s : State} (hd : (f s).seq.done = false)
    (hg : ∀ s, (g s).bus = s.bus) :
    (runSteps [fun s => if taken (f s) then reqExec 5 (f s) else signalDone (f s), fun s => signalDone (g s)] s).bus
      = if taken (f s) then ⟨.exec, 0, 0, 5⟩ :: (f s).bus else (f s).bus := by
  cases h : taken (f s) <;> simp [runSteps_cons, runSteps_last, h, hd, hg]

theorem bus_jrCc (cc : JCC) (e : Byte) (s : State) :
    (runSteps (programOf (.jrCc cc e)) (settle s)).bus
      = if condition (jumpCondition cc) s then ⟨.exec, 0, 0, 5⟩ :: s.bus else s.bus :=
  bus_runSteps_branch (f := fun s => s) (g := jumpRelative e) (taken := condition (jumpCondition cc)) rfl fun _ => rfl

theorem bus_djnz (e : Byte) (s : State) :
    (runSteps (programOf (.djnz e)) (settle s)).bus
      = if s.regs.b = 1 then s.bus else ⟨.exec, 0, 0, 5⟩ :: s.bus := by
  have h := bus_runSteps_branch (s := settle s) (f := fun s => setR .b (s.regs.b - 1) s) (g := jumpRelative e)
    (taken := fun s => s.regs.b != 0) rfl fun _ => rfl
  have hcount : ((setR .b (s.regs.b - 1) (settle s)).regs.b != 0) = !decide (s.regs.b = 1) := counted_ne_zero s.regs.b
  rw [programOf_djnz]
  refine h.trans ?_
  rw [settle_regs, hcount]
  by_cases hb : s.regs.b = 1 <;> simp [hb]

theorem bus_callCc (cc : CC) (nn : Word) (s : State) :
    (runSteps (programOf (.callCcNn cc nn)) (settle s)).bus.map BusEvent.tStates
      = if condition cc s then 3 :: 3 :: (lengthenLast 1 s.bus).map BusEvent.tStates
        else s.bus.map BusEvent.tStates := by
  rw [programOf]
  cases h : condition cc s with
  | false => simp [progCallCcNn, pushRest, runSteps_cons, h]
  | true =>
    cases hp : s.cfg.pushOrder <;>
      simp [progCallCcNn, pushRest, runSteps_cons, runSteps_last, reqPushFirst, reqPushSecond, h, hp]

theorem bus_retCc (cc : CC) (s : State) :
    (runSteps (programOf (.retCc cc)) (settle s)).bus.map BusEvent.tStates
      = if condition cc s then 3 :: 3 :: (lengthenLast 1 s.bus).map BusEvent.tStates
        else (lengthenLast 1 s.bus).map BusEvent.tStates := by
  rw [programOf]
  cases h : condition cc s with
  | false => simp [progRetCc, popRest, runSteps_cons, h]
  | true => simp [progRetCc, popRest, runSteps_cons, runSteps_last, takeLow, h]

/-- The restart address is eight times its number (R634). -/
theorem restartAddress_eq (y : BitVec 3) : restartAddress y = BitVec.ofNat 16 (8 * y.toNat) := by
  revert y
  decide

end Sys2Proof.Machine

namespace Sys2Proof.Settled
open Machine

/-- Settles O26: two WRITEs in `PUSH_ORDER`, or two READs. -/
theorem pushAndPop : Obligations.PushAndPop := by
  refine fun g s => ⟨?_, ?_⟩
  · exact (finishesAs_pushThen (programOf_push g) g.readsRegs archFn_id s).pushedApart (fun _ => rfl) (fun _ _ => rfl)
  · exact finishesAs_popInto (programOf_pop g) (fun v => archFn_of_commutes (arch_StackReg_set g v)) s

/-- Settles O27: the pop reads back the two bytes that the push stored. -/
theorem pushThenPop : Obligations.PushThenPop := by
  intro g g' s
  obtain ⟨⟨t, ht, htarch, hpair⟩, -⟩ := pushAndPop g s
  refine ⟨t, ht, fun u humem hutape husp => ?_⟩
  have htsp : t.regs.sp = s.regs.sp - 2 := congrArg (fun x => x.regs.sp) htarch
  rw [← humem, ← htsp, ← husp] at hpair
  obtain ⟨-, w, hw, hwarch⟩ := pushAndPop g' u
  rw [top_of_storedPair hutape hpair] at hwarch
  refine ⟨w, hw, ?_, ?_, ?_⟩
  · have hget := congrArg g'.get hwarch
    rw [g'.get_arch, g'.get_arch] at hget
    exact hget.trans ((g'.readsRegs rfl).trans (g'.get_set ..))
  · have hsp : w.regs.sp = (g'.set (g.get s) (popped u)).regs.sp := congrArg (fun x => x.regs.sp) hwarch
    have hu : (popped u).regs.sp = u.regs.sp + 2 := rfl
    rw [hsp, g'.set_sp, hu, husp, htsp]
    bv_omega
  · have hmem : w.mem = (g'.set (g.get s) (popped u)).mem := congrArg (fun x => x.mem) hwarch
    rw [hmem, g'.set_mem, ← humem]
    rfl

/-- Settles O29: one step, or one and a jump after it. -/
theorem jumps : Obligations.Jumps := by
  refine fun s => ⟨fun nn => ?_, fun cc nn => ?_, ?_, fun xy => ?_, fun e => ?_⟩
  · exact finishesAs_single (i := .jpNn nn) rfl (archFn_of_commutes fun _ => rfl) s
  · exact finishesAs_single (i := .jpCcNn cc nn) (f := fun s => if condition cc s then setPc nn s else s) rfl
      (archFn_of_commutes fun s => by by_cases h : condition cc s <;> simp [condition_arch, h]) s
  · exact finishesAs_single (i := .jpHl) (f := fun s => setPc s.hl s) rfl (archFn_of_commutes fun _ => rfl) s
  · exact finishesAs_single (f := fun s => setPc (getX xy s) s) (by cases xy <;> rfl)
      (archFn_of_commutes fun _ => by simp) s
  · intro target
    have htarget : setPc target s = jumpRelative e s := (jumpRelative_eq e s).symm
    rw [htarget]
    refine ⟨?_, fun cc => ?_, ?_⟩
    · exact finishesAs_of_runSteps (i := .jr e) (p := progJr e) rfl (by
        simp [progJr, runSteps_cons, runSteps_last, jumpRelative])
    · exact finishesAs_branch (i := .jrCc cc e) (taken := condition (jumpCondition cc)) (g := jumpRelative e)
        (f := fun s => s) rfl (fun _ => rfl) (fun _ => rfl) (fun _ => rfl) (archFn_of_commutes fun _ => rfl) s
    · have h := finishesAs_branch (i := .djnz e) (taken := fun s => s.regs.b != 0) (g := jumpRelative e)
        (f := fun s => setR .b (s.regs.b - 1) s) (programOf_djnz e)
        (fun _ => rfl) (fun _ => rfl) (fun _ => rfl) (archFn_of_commutes fun _ => rfl) s
      have hcount : ((setR .b (s.regs.b - 1) s).regs.b != 0) = !decide (s.regs.b = 1) := counted_ne_zero s.regs.b
      rw [hcount] at h
      by_cases hb : s.regs.b = 1 <;> simp only [hb] at h ⊢ <;> exact h

/-- Settles O30: a push of PC and a jump. -/
theorem calls : Obligations.Calls := by
  have hv : ReadsRegs (fun s => s.regs.pc) := fun s t h => congrArg (fun r => r.pc) h
  have hcall {i : Instr} {nn : Word} (hp : programOf i = pushThen (fun s => s.regs.pc) (setPc nn)) (s : State) :=
    (finishesAs_pushThen hp hv (archFn_of_commutes (arch_setPc nn)) s).pushedApart (fun _ => rfl) (fun _ _ => rfl)
  refine fun s => ⟨fun nn => hcall rfl s, fun cc nn => ?_, fun y => ?_⟩
  · split
    next h =>
      exact (finishesAs_callCc_true h nn).pushedApart (fun _ => rfl) (fun _ _ => rfl)
    next h => exact finishesAs_callCc_false (Bool.eq_false_iff.mpr h) nn
  · rw [← restartAddress_eq]
    exact hcall rfl s

/-- Settles O31: a pop into PC. -/
theorem returns : Obligations.Returns := by
  have hpc (v : Word) : ArchFn (setPc v) := archFn_of_commutes (arch_setPc v)
  have hiff (v : Word) : ArchFn (fun s => restoreIff (setPc v s)) := archFn_of_commutes fun _ => rfl
  refine fun s => ⟨finishesAs_popInto (i := .ret) rfl hpc s, finishesAs_retCc (s := s),
    finishesAs_popInto (i := .reti) rfl hiff s, fun y => finishesAs_popInto (i := .retn y) rfl hiff s⟩

/-- Settles O32: the lengths of the cycles recorded. -/
theorem conditionalCycles : Obligations.ConditionalCycles := by
  intro s last before hbus
  refine ⟨fun cc nn => ?_, fun cc nn => ?_, fun cc e => ?_, fun cc => ?_, fun e => ?_⟩
  · exact ⟨_, exec_eq_run (.jpCcNn cc nn) s, by
      simp only [programOf, progJpCcNn, runSteps_single]
      split <;> simp [hbus]⟩
  · refine ⟨_, exec_eq_run (.callCcNn cc nn) s, ?_⟩
    rw [← condition_eq, bus_callCc]
    by_cases h : condition cc s <;> simp [h, hbus, lengthenLast]
  · refine ⟨_, exec_eq_run (.jrCc cc e) s, ?_⟩
    rw [← condition_eq, bus_jrCc]
    by_cases h : condition (jumpCondition cc) s <;> simp [h, hbus]
  · refine ⟨_, exec_eq_run (.retCc cc) s, ?_⟩
    rw [← condition_eq, bus_retCc]
    by_cases h : condition cc s <;> simp [h, hbus, lengthenLast]
  · refine ⟨_, exec_eq_run (.djnz e) s, ?_⟩
    rw [bus_djnz]
    by_cases hb : s.regs.b = 1
    · simp [hb, hbus]
    · rw [if_neg hb, if_neg hb]
      simp [hbus]

/-- Settles O40: two READs and two WRITEs around WZ. -/
theorem exchangeStackTop : Obligations.ExchangeStackTop := by
  refine ⟨fun s => ?_, fun xy s => ?_⟩
  · exact (finishesAs_exchangeAtSp (i := .exAtSpHl) (get := State.hl) (put := setHl) rfl (StackReg.main .hl).readsRegs
      (fun v => archFn_of_commutes (arch_setHl v)) s).exchangedApart (fun _ => rfl) (fun _ _ => rfl)
  · exact (finishesAs_exchangeAtSp (get := getX xy) (put := setX xy) (by cases xy <;> rfl)
      (StackReg.index xy).readsRegs (fun v => archFn_of_commutes (arch_setX xy v)) s).exchangedApart
      ((StackReg.index xy).set_mem _)
        (fun _ _ => by cases xy <;> rfl)

end Sys2Proof.Settled
end

section
/-! PROOFS. Input and output, the exchanges and CPU control (spec/47_exchange_block.md, spec/48_io.md,
spec/49_cpu_control.md). -/

namespace Sys2Proof.Machine

/-! ### What a port answers -/

@[simp] theorem portAnswer_settle (a : Word) (s : State) : portAnswer a (settle s) = portAnswer a s := rfl
@[simp] theorem portAnswer_holdFor (a : Word) (n : Nat) (s : State) : portAnswer a (holdFor n s) = portAnswer a s := rfl

theorem archFn_answeredBy (a : Word) : ArchFn (answeredBy a) := fun s t h => by
  have hv : portAnswer a s = portAnswer a t := show portAnswer a s.arch = portAnswer a t.arch by rw [h]
  rw [answeredBy, answeredBy, hv]
  exact congrArg (fun u => record .ioRead a (portAnswer a t) 0 { u with ioTape := u.ioTape.tail }) h

@[simp] theorem arch_answeredBy_settled (a : Word) (n : Nat) (s : State) :
    (answeredBy a (holdFor n (settle s))).arch = (answeredBy a s).arch :=
  archFn_answeredBy a (by simp)
@[simp] theorem answeredBy_mem (a : Word) (s : State) : (answeredBy a s).mem = s.mem := rfl

/-! ### One transfer -/

section
variable {i : Instr} {port : State → Word}

theorem finishesAs_ioReadAt {f : Byte → StepFn} (hp : programOf i = ioReadAt port f)
    (ha : ∀ s, port (settle s) = port s) (hf : ∀ v, ArchFn (f v)) (s : State) :
    FinishesAs i s (f (portAnswer (port s) s) (answeredBy (port s) s)) :=
  finishesAs_of_runSteps hp (by
    have h : (f (portAnswer (port s) s) (busCycle (reqIoRead (port s) (settle s)))).arch
        = (f (portAnswer (port s) s) (answeredBy (port s) s)).arch := hf _ rfl
    simp [ioReadAt, runSteps_cons, runSteps_last, ha, h])

theorem finishesAs_ioWriteAt {value : State → Byte} (hp : programOf i = ioWriteAt port value)
    (ha : ∀ s, port (settle s) = port s) (hv : ∀ s, value (settle s) = value s) (s : State) :
    FinishesAs i s (record .ioWrite (port s) (value s) 4 s) :=
  finishesAs_of_runSteps hp (by simp [ioWriteAt, runSteps_cons, runSteps_last, ha, hv])

end

/-- The flags of an input with flags (R471). -/
theorem inputFlags (v f0 : Byte) :
    let f := szp v (parity v) f0
    resultFlags f v ∧ flagPV f = evenBits v ∧ flagH f = false ∧ flagN f = false ∧ flagC f = flagC f0 := by
  intro f
  obtain ⟨hres, hpv, hh, hn, hc⟩ := szp_flags v (parity v) f0
  exact ⟨hres, hpv.trans (parity_eq_evenBits v), hh, hn, hc⟩

theorem applySzp_setR (v : Byte) (pv : Bool) (r : R8) (w : Byte) (s : State) :
    applySzp v pv (setR r w s) = setR r w (setF (szp v pv s.regs.f) s) := by
  rw [applySzp, setR_f, setF_setR]

/-! ### The flags of the block transfers (R469) -/

/-- `ioblock` packs the flags as R469 gives them. -/
theorem ioblock_flags (cfg : Config) (draw : Nat) (v b : Byte) (k : Nat) :
    let f := ioblock cfg draw v b k
    flagZ f = decide (b = 0)
      ∧ (cfg.undocFlags = .values → resultFlags f b ∧ flagN f = v.getLsbD 7 ∧ flagH f = decide (255 < k)
          ∧ flagC f = decide (255 < k) ∧ flagPV f = evenBits (BitVec.ofNat 8 (k % 8) ^^^ b)) := by
  refine ⟨by simp [ioblock, zeroOf, beq_eq_decide], fun h => ?_⟩
  rw [ioblock, undocumented_values h]
  exact ⟨resultFlags_mkF .., flagN_mkF .., flagH_mkF .., flagC_mkF .., (flagPV_mkF ..).trans (parity_eq_evenBits _)⟩

/-! ### The block inputs -/

/-- The registers and flags of a block input, once its byte stands in `data_in`. -/
def blockInStep (inc : Word) (s : State) : State :=
  setF (ioblock s.cfg s.draws s.seq.dataIn (s.regs.b - 1) (s.seq.dataIn.toNat + (s.regs.c + lo8 inc).toNat))
    (setHl (s.hl + inc) (setR .b (s.regs.b - 1) s))

theorem blockIn_eq (inc : Word) (repeats : Bool) :
    blockIn inc repeats =
      [ fun s => reqIoRead s.bc (holdFor 1 s),
        fun s => reqWrite s.hl s.seq.dataIn s,
        fun s => repeatOrDone (repeats && s.regs.b - 1 != 0) (blockInStep inc s),
        refetch ] := rfl

/-- The state in which a block input's byte has been moved, before its registers are written. -/
def blockTaken (s : State) : State :=
  busCycle (reqWrite s.hl (portAnswer s.bc s) (busCycle (reqIoRead s.bc (holdFor 1 (settle s)))))

theorem runSteps_blockIn (inc : Word) (repeats : Bool) (s : State) :
    runSteps (blockIn inc repeats) (settle s)
      = runSteps [fun s => repeatOrDone (repeats && s.regs.b - 1 != 0) (blockInStep inc s), refetch] (blockTaken s) := by
  rw [blockIn_eq, runSteps_of_running rfl, runSteps_of_running rfl]
  simp [blockTaken]

theorem arch_blockInStep_blockTaken (inc : Word) (s : State) :
    let k := (portAnswer s.bc s).toNat + (s.regs.c + lo8 inc).toNat
    (blockInStep inc (blockTaken s)).arch
      = (setF (ioblock s.cfg s.draws (portAnswer s.bc s) (s.regs.b - 1) k)
          (setHl (s.hl + inc) (setR .b (s.regs.b - 1)
            (storeMemory s.hl (portAnswer s.bc s) (answeredBy s.bc s))))).arch := by
  simp [blockInStep, blockTaken]

/-- A block input takes its byte, steps HL, counts B down and, to repeat, steps PC back. -/
theorem finishesAs_blockIn {i : Instr} {inc : Word} {repeats : Bool} (hp : programOf i = blockIn inc repeats)
    (s : State) :
    let v := portAnswer s.bc s
    let b' := s.regs.b - 1
    FinishesAs i s
      (setF (ioblock s.cfg s.draws v b' (v.toNat + (s.regs.c + lo8 inc).toNat))
        (setHl (s.hl + inc) (setR .b b'
          (setPc (if repeats && b' != 0 then s.regs.pc - 2 else s.regs.pc) (storeMemory s.hl v (answeredBy s.bc s)))))) := by
  refine finishesAs_of_runSteps hp ?_
  have hb : (blockTaken s).regs.b = s.regs.b := rfl
  rw [runSteps_blockIn, arch_runSteps_repeat (blockInStep inc) (fun s => repeats && s.regs.b - 1 != 0) rfl
    (arch_blockInStep_blockTaken inc s), hb]
  rfl

/-- A block input, with memory given apart and the flags of R469. -/
theorem exec_blockIn {i : Instr} {inc : Word} {repeats : Bool} (hp : programOf i = blockIn inc repeats) {c' : Byte}
    {s : State} (hc : s.regs.c + lo8 inc = c') :
    let v := portAnswer s.bc s
    let b' := s.regs.b - 1
    let k := v.toNat + c'.toNat
    ∃ t f, exec i s = .next t
      ∧ ({ t with mem := s.mem } : State).arch
          = (finished (setF f (setHl (s.hl + inc) (setR .b b'
              (setPc (if repeats && b' != 0 then s.regs.pc - 2 else s.regs.pc)
                (record .write s.hl v 3 (answeredBy s.bc s))))))).arch
      ∧ storedByte s.mem t.mem s.hl v
      ∧ flagZ f = decide (b' = 0)
      ∧ (s.cfg.undocFlags = .values → resultFlags f b' ∧ flagN f = v.getLsbD 7 ∧ flagH f = decide (255 < k)
          ∧ flagC f = decide (255 < k) ∧ flagPV f = evenBits (BitVec.ofNat 8 (k % 8) ^^^ b')) := by
  intro v b' k
  obtain ⟨t, ht, harch, hmem⟩ := (finishesAs_blockIn hp s).storedByte rfl
  rw [hc] at harch
  exact ⟨t, _, ht, harch, hmem, ioblock_flags s.cfg s.draws v b' k⟩

/-! ### The block outputs -/

/-- The registers and flags of a block output, once its byte is driven. -/
def blockOutStep (inc : Word) (s : State) : State :=
  setF (ioblock s.cfg s.draws s.seq.dataIn s.regs.b (s.seq.dataIn.toNat + (lo8 (s.hl + inc)).toNat))
    (setHl (s.hl + inc) s)

theorem blockOut_eq (inc : Word) (repeats : Bool) :
    blockOut inc repeats =
      [ fun s => reqRead s.hl (holdFor 1 s),
        fun s => reqIoWrite (mk16 (s.regs.b - 1) s.regs.c) s.seq.dataIn (setR .b (s.regs.b - 1) s),
        fun s => repeatOrDone (repeats && s.regs.b != 0) (blockOutStep inc s),
        refetch ] := rfl

@[simp] theorem setR_b_b (v : Byte) (s : State) : (setR .b v s).regs.b = v := rfl
@[simp] theorem setR_b_hl (v : Byte) (s : State) : (setR .b v s).hl = s.hl := rfl
theorem record_setR_b (k : Cycle) (a : Word) (v w : Byte) (n : Nat) (s : State) :
    record k a v n (setR .b w s) = setR .b w (record k a v n s) := rfl

/-- The state in which a block output's byte has been driven, before HL and F are written. -/
def blockDriven (s : State) : State :=
  busCycle (reqIoWrite (mk16 (s.regs.b - 1) s.regs.c) (memAnswer s.hl s)
    (setR .b (s.regs.b - 1) (busCycle (reqRead s.hl (holdFor 1 (settle s))))))

theorem runSteps_blockOut (inc : Word) (repeats : Bool) (s : State) :
    runSteps (blockOut inc repeats) (settle s)
      = runSteps [fun s => repeatOrDone (repeats && s.regs.b != 0) (blockOutStep inc s), refetch] (blockDriven s) := by
  rw [blockOut_eq, runSteps_of_running rfl, runSteps_of_running rfl]
  simp [blockDriven]

theorem arch_blockOutStep_blockDriven (inc : Word) (s : State) :
    let v := memAnswer s.hl s
    let b' := s.regs.b - 1
    (blockOutStep inc (blockDriven s)).arch
      = (setF (ioblock s.cfg s.draws v b' (v.toNat + (lo8 (s.hl + inc)).toNat))
          (setHl (s.hl + inc) (setR .b b' (record .ioWrite (mk16 b' s.regs.c) v 4 (readBy s.hl s))))).arch := by
  simp [blockOutStep, blockDriven, readBy, record_setR_b]

theorem finishesAs_blockOut {i : Instr} {inc : Word} {repeats : Bool} (hp : programOf i = blockOut inc repeats)
    (s : State) :
    let v := memAnswer s.hl s
    let b' := s.regs.b - 1
    FinishesAs i s
      (setF (ioblock s.cfg s.draws v b' (v.toNat + (lo8 (s.hl + inc)).toNat))
        (setHl (s.hl + inc) (setR .b b'
          (setPc (if repeats && b' != 0 then s.regs.pc - 2 else s.regs.pc)
            (record .ioWrite (mk16 b' s.regs.c) v 4 (readBy s.hl s)))))) := by
  refine finishesAs_of_runSteps hp ?_
  have hb : (blockDriven s).regs.b = s.regs.b - 1 := rfl
  rw [runSteps_blockOut, arch_runSteps_repeat (blockOutStep inc) (fun s => repeats && s.regs.b != 0) rfl
    (arch_blockOutStep_blockDriven inc s), hb]
  rfl

/-- A block output, with the flags of R469. -/
theorem exec_blockOut {i : Instr} {inc : Word} {repeats : Bool} (hp : programOf i = blockOut inc repeats)
    (s : State) :
    let v := memAnswer s.hl s
    let b' := s.regs.b - 1
    let k := v.toNat + (lo8 (s.hl + inc)).toNat
    ∃ t f, exec i s = .next t
      ∧ t.arch = (finished (setF f (setHl (s.hl + inc) (setR .b b'
          (setPc (if repeats && b' != 0 then s.regs.pc - 2 else s.regs.pc)
            (record .ioWrite (mk16 b' s.regs.c) v 4 (readBy s.hl s))))))).arch
      ∧ flagZ f = decide (b' = 0)
      ∧ (s.cfg.undocFlags = .values → resultFlags f b' ∧ flagN f = v.getLsbD 7 ∧ flagH f = decide (255 < k)
          ∧ flagC f = decide (255 < k) ∧ flagPV f = evenBits (BitVec.ofNat 8 (k % 8) ^^^ b')) := by
  intro v b' k
  obtain ⟨t, ht, harch⟩ := finishesAs_blockOut hp s
  exact ⟨t, _, ht, harch, ioblock_flags s.cfg s.draws v b' k⟩

/-! ### Exchanges and CPU control -/

theorem exchangeDeHl_eq (s : State) : exchangeDeHl s = setDe s.hl (setHl s.de s) := by
  simp [exchangeDeHl, setDe, setHl, State.hl, State.de]

/-- The unimplemented-opcode outcome (R412). -/
theorem raiseUnimplemented_eq (code : Word) (s : State) :
    raiseUnimplemented code s = { s with
      unimplSeen := true
      unimplOp := if s.unimplSeen then s.unimplOp else code
      halted := s.halted || decide (s.cfg.unimplPolicy = .fault) } := by
  cases h : s.cfg.unimplPolicy <;> simp [raiseUnimplemented, enterHalted, h]

theorem raises {i : Instr} {code : Word} (hp : programOf i = single (raiseUnimplemented code)) (s : State) :
    ∃ t, exec i s = .next t
      ∧ t.arch = (finished { s with
          unimplSeen := true
          unimplOp := if s.unimplSeen then s.unimplOp else code
          halted := s.halted || decide (s.cfg.unimplPolicy = .fault) }).arch := by
  rw [← raiseUnimplemented_eq]
  exact finishesAs_single hp (archFn_of_commutes fun s => by rw [raiseUnimplemented_eq, raiseUnimplemented_eq]; rfl) s

/-- The code that `IM` records (R784). -/
theorem imCode_eq (y : BitVec 3) : mk16 0xED#8 (mkOp 1 y 6) = BitVec.ofNat 16 (0xED46 + 8 * y.toNat) := by
  revert y
  decide

end Sys2Proof.Machine

namespace Sys2Proof.Settled
open Machine

/-- Settles O43: one IOREAD or IOWRITE; the flags of an input are those of `szp`. -/
theorem inOut : Obligations.InOut := by
  intro s
  refine ⟨fun n => ?_, fun r => ?_, ?_, fun n => ?_, fun r => ?_, ?_⟩
  · exact finishesAs_ioReadAt (i := .inAAtN n) (port := fun s => mk16 s.regs.a n) (f := setR .a) rfl (fun _ => rfl)
      (fun v => archFn_of_commutes (arch_setR .a v)) s
  · obtain ⟨t, ht, harch⟩ := finishesAs_ioReadAt (i := .inRC r) (port := State.bc)
      (f := fun v s => applySzp v (parity v) (setR r v s)) rfl (fun _ => rfl)
      (fun v => archFn_of_commutes fun s => by simp [applySzp]) s
    rw [applySzp_setR] at harch
    exact ⟨t, _, ht, inputFlags _ _, harch⟩
  · obtain ⟨t, ht, harch⟩ := finishesAs_ioReadAt (i := .inFlagsC) (port := State.bc)
      (f := fun v => applySzp v (parity v)) rfl (fun _ => rfl) (fun v => archFn_of_commutes fun _ => rfl) s
    exact ⟨t, _, ht, inputFlags _ _, harch⟩
  · exact finishesAs_ioWriteAt (i := .outAtNA n) (port := fun s => mk16 s.regs.a n) (value := fun s => s.regs.a) rfl
      (fun _ => rfl) (fun _ => rfl) s
  · exact finishesAs_ioWriteAt (i := .outCR r) (port := State.bc) (value := getR r) rfl
      (fun _ => rfl) (getR_settle r) s
  · exact finishesAs_ioWriteAt (i := .outC0) (port := State.bc) (value := fun _ => 0) rfl
      (fun _ => rfl) (fun _ => rfl) s

/-- Settles O44: the four block inputs; C steps with HL in the carry of R469. -/
theorem blockIn : Obligations.BlockIn := by
  intro s
  have hup : s.regs.c + lo8 1 = s.regs.c + 1 := rfl
  have hdown : s.regs.c + lo8 (-1) = s.regs.c - 1 := (sub_eq_add_neg s.regs.c 1).symm
  exact ⟨exec_blockIn (i := .ini) rfl hup, exec_blockIn (i := .ind) rfl hdown,
    exec_blockIn (i := .inir) rfl hup, exec_blockIn (i := .indr) rfl hdown⟩

/-- Settles O45: the four block outputs. -/
theorem blockOut : Obligations.BlockOut := fun s =>
  ⟨exec_blockOut (i := .outi) rfl s, exec_blockOut (i := .outd) rfl s, exec_blockOut (i := .otir) rfl s,
    exec_blockOut (i := .otdr) rfl s⟩

/-- Settles O39: one step each, which exchanges the pairs. -/
theorem exchanges : Obligations.Exchanges := fun s =>
  ⟨exchangeDeHl_eq s ▸ finishesAs_single (i := .exDeHl) (f := exchangeDeHl) rfl (archFn_of_commutes fun _ => rfl) s,
    finishesAs_single (i := .exAfAf) rfl (archFn_of_commutes fun _ => rfl) s,
    finishesAs_single (i := .exx) rfl (archFn_of_commutes fun _ => rfl) s⟩

/-- Settles O46: one step that does nothing, or halts. -/
theorem noOperationsAndHalt : Obligations.NoOperationsAndHalt := fun s =>
  ⟨finishesAs_single (i := .nop) rfl archFn_id s, fun q => finishesAs_single (i := .nopEd q) rfl archFn_id s,
    fun op => finishesAs_single (i := .noni op) rfl archFn_id s,
    finishesAs_single (i := .halt) rfl (archFn_of_commutes fun _ => rfl) s⟩

/-- Settles O47: one step, which raises the outcome. -/
theorem unimplementedOpcodes : Obligations.UnimplementedOpcodes := by
  refine fun s => ⟨raises (i := .di) rfl s, raises (i := .ei) rfl s, fun y => ?_⟩
  rw [← imCode_eq]
  exact raises (i := .im y) rfl s

/-- Settles O48: each prefix byte is one step that sets the latch. -/
theorem prefixBytes : Obligations.PrefixBytes := by
  intro s
  refine ⟨⟨_, rfl, rfl, rfl, rfl, rfl⟩, ⟨_, rfl, rfl, rfl, rfl, rfl⟩, ⟨_, rfl, rfl, rfl, rfl, rfl⟩,
    ⟨_, rfl, rfl, rfl, rfl, rfl⟩, fun b => ⟨_, rfl, rfl, rfl, rfl, rfl⟩, fun b => ⟨_, rfl, rfl, rfl, rfl, rfl⟩,
    ⟨_, rfl, rfl, rfl, rfl, rfl, rfl⟩, ⟨_, rfl, rfl, rfl, rfl, rfl, rfl⟩⟩

/-- Settles O6: the decoder run on each word. -/
theorem decodesTableWords : Obligations.DecodesTableWords :=
  ⟨rfl, rfl, rfl, rfl, rfl, rfl, rfl, rfl, rfl, rfl, rfl, rfl⟩

end Sys2Proof.Settled
end

section
/-! PROOFS. The step machine decodes its instruction anew at every invocation, from operand bytes in WZ that the
instruction's own steps may write over (spec/40_step_machine.md R402, R406). The steps still to come do not change: a
step either leaves WZ alone, or is followed by steps that name no operand. -/

namespace Sys2Proof.Machine

open Laws.Unit (opX_mkOp opY_mkOp opZ_mkOp)

/-- A step that goes on with the instruction leaves WZ alone. -/
def LeavesWz (f : StepFn) : Prop := ∀ s, (f s).seq.done = false → (f s).regs.wz = s.regs.wz

/-- Two programs whose steps after the first that writes WZ are the same. -/
def SameAfterWz (p p' : Program) : Prop :=
  ∀ k f, p[k]? = some f → LeavesWz f ∨ p.drop (k + 1) = p'.drop (k + 1)

theorem sameAfterWz_cons (f f' : StepFn) (p : Program) : SameAfterWz (f :: p) (f' :: p) := fun _ _ _ => .inr rfl

theorem sameAfterWz_refl (p : Program) : SameAfterWz p p := fun _ _ _ => .inr rfl

theorem sameAfterWz_of_leaves {p p' : Program} (h : ∀ f ∈ p, LeavesWz f) : SameAfterWz p p' :=
  fun _ f hf => .inl (h f (List.mem_of_getElem? hf))

theorem leavesWz_of_wz {f : StepFn} (h : ∀ s, (f s).regs.wz = s.regs.wz) : LeavesWz f := fun s _ => h s

theorem leavesWz_signalDone (f : StepFn) : LeavesWz (fun s => signalDone (f s)) := fun s h => by simp at h

/-! ### The operands that a step after the first names -/

theorem leavesWz_writePairAt (nn : Word) (get : State → Word) : ∀ f ∈ writePairAt nn get, LeavesWz f := by
  simp only [writePairAt, List.forall_mem_cons, List.not_mem_nil, false_imp_iff, implies_true, and_true]
  exact ⟨leavesWz_of_wz fun _ => rfl, leavesWz_of_wz fun _ => rfl, leavesWz_signalDone id⟩

theorem leavesWz_pushRest (v : State → Word) (after : StepFn) : ∀ f ∈ pushRest v after, LeavesWz f := by
  simp only [pushRest, List.forall_mem_cons, List.not_mem_nil, false_imp_iff, implies_true, and_true]
  refine ⟨leavesWz_of_wz fun s => ?_, leavesWz_signalDone _⟩
  cases h : s.cfg.pushOrder <;> simp [reqPushSecond, h]

theorem leavesWz_pushThen (v : State → Word) (after : StepFn) : ∀ f ∈ pushThen v after, LeavesWz f := by
  refine List.forall_mem_cons.2 ⟨leavesWz_of_wz fun s => ?_, leavesWz_pushRest v after⟩
  cases h : s.cfg.pushOrder <;> simp [reqPushFirst, h]

theorem leavesWz_callCcNn (cc : CC) (nn : Word) : ∀ f ∈ progCallCcNn cc nn, LeavesWz f := by
  refine List.forall_mem_cons.2 ⟨fun s h => ?_, leavesWz_pushRest _ _⟩
  cases hc : condition cc s
  · simp [hc] at h
  · cases hp : s.cfg.pushOrder <;> simp [reqPushFirst, hc, hp]

/-- A branch writes no register but B. -/
theorem leavesWz_branch {f g : StepFn} {taken : State → Bool} (hf : ∀ s, (f s).regs.wz = s.regs.wz) :
    ∀ k ∈ ([fun s => if taken (f s) then reqExec 5 (f s) else signalDone (f s), fun s => signalDone (g s)] : Program),
      LeavesWz k := by
  simp only [List.forall_mem_cons, List.not_mem_nil, false_imp_iff, implies_true, and_true]
  refine ⟨fun s h => ?_, leavesWz_signalDone g⟩
  cases hc : taken (f s)
  · simp [hc] at h
  · simpa [hc] using hf s

theorem leavesWz_djnz (e : Byte) : ∀ f ∈ programOf (.djnz e), LeavesWz f := by
  rw [programOf_djnz]
  exact leavesWz_branch (f := fun s => setR .b (s.regs.b - 1) s) (taken := fun s => s.regs.b != 0) fun _ => rfl

theorem leavesWz_jrCc (cc : JCC) (e : Byte) : ∀ f ∈ programOf (.jrCc cc e), LeavesWz f :=
  leavesWz_branch (f := fun s => s) (taken := condition (jumpCondition cc)) fun _ => rfl

theorem leavesWz_jr (e : Byte) : ∀ f ∈ programOf (.jr e), LeavesWz f :=
  List.forall_mem_cons.2 ⟨leavesWz_of_wz fun _ => rfl, List.forall_mem_cons.2 ⟨leavesWz_signalDone _, nofun⟩⟩

/-- A pair read from `nn`: the second step still names `nn`, and no step before it writes WZ. -/
theorem sameAfterWz_readPairAt (nn nn' : Word) (put : Word → StepFn) :
    SameAfterWz (readPairAt nn put) (readPairAt nn' put)
  | 0, _, h => by cases h; exact .inl (leavesWz_of_wz fun _ => rfl)
  | _ + 1, _, _ => .inr rfl

/-! ### The tables -/

section
variable (b1 b2 c1 c2 : Byte)

theorem sameAfterWz_decodeX0 (y z : BitVec 3) :
    SameAfterWz (programOf (decodeX0 (mkOp 0 y z) b1 b2)) (programOf (decodeX0 (mkOp 0 y z) c1 c2)) := by
  cases z using octalCases with
  | y0 =>
    cases y using octalCases with
    | y0 | y1 => exact sameAfterWz_cons _ _ _
    | y2 => exact sameAfterWz_of_leaves (leavesWz_djnz b1)
    | y3 => exact sameAfterWz_of_leaves (leavesWz_jr b1)
    | y4 | y5 | y6 | y7 => exact sameAfterWz_of_leaves (leavesWz_jrCc _ b1)
  | y2 =>
    cases y using octalCases with
    | y4 => exact sameAfterWz_of_leaves (leavesWz_writePairAt _ _)
    | y5 => exact sameAfterWz_readPairAt _ _ setHl
    | y0 | y1 | y2 | y3 | y6 | y7 => exact sameAfterWz_cons _ _ _
  | y1 | y3 | y4 | y5 | y6 | y7 => cases y using octalCases <;> exact sameAfterWz_cons _ _ _

/-- Both rows of 0xDD, and of 0xFD, have one step. -/
theorem programOf_xyPrefix (b : Byte) :
    programOf (if xyIneffective b then .ddNoEffect b else .ddPrefix) = programOf .ddPrefix
      ∧ programOf (if xyIneffective b then .fdNoEffect b else .fdPrefix) = programOf .fdPrefix := by
  cases xyIneffective b <;> exact ⟨rfl, rfl⟩

theorem sameAfterWz_xyPrefix (b c : Byte) :
    SameAfterWz (programOf (if xyIneffective b then .ddNoEffect b else .ddPrefix))
        (programOf (if xyIneffective c then .ddNoEffect c else .ddPrefix))
      ∧ SameAfterWz (programOf (if xyIneffective b then .fdNoEffect b else .fdPrefix))
        (programOf (if xyIneffective c then .fdNoEffect c else .fdPrefix)) := by
  rw [(programOf_xyPrefix b).1, (programOf_xyPrefix b).2, (programOf_xyPrefix c).1, (programOf_xyPrefix c).2]
  exact ⟨sameAfterWz_cons _ _ _, sameAfterWz_cons _ _ _⟩

theorem sameAfterWz_decodeX3 (y z : BitVec 3) :
    SameAfterWz (programOf (decodeX3 (mkOp 3 y z) b1 b2)) (programOf (decodeX3 (mkOp 3 y z) c1 c2)) := by
  cases z using octalCases with
  | y4 => cases y using octalCases <;> exact sameAfterWz_of_leaves (leavesWz_callCcNn _ _)
  | y5 =>
    cases y using octalCases with
    | y1 => exact sameAfterWz_of_leaves (leavesWz_pushThen _ _)
    | y3 => exact (sameAfterWz_xyPrefix b1 c1).1
    | y7 => exact (sameAfterWz_xyPrefix b1 c1).2
    | y0 | y2 | y4 | y5 | y6 => exact sameAfterWz_cons _ _ _
  | y0 | y1 | y2 | y3 | y6 | y7 => cases y using octalCases <;> exact sameAfterWz_cons _ _ _

theorem sameAfterWz_decodeBase (op : Byte) :
    SameAfterWz (programOf (decodeBase op b1 b2)) (programOf (decodeBase op c1 c2)) := by
  cases op using opcodeCases with
  | x0 y z => simpa [decodeBase, opX_mkOp] using sameAfterWz_decodeX0 b1 b2 c1 c2 y z
  | x3 y z => simpa [decodeBase, opX_mkOp] using sameAfterWz_decodeX3 b1 b2 c1 c2 y z
  | x1 y z =>
    simp only [decodeBase, opX_mkOp]
    exact sameAfterWz_refl _
  | x2 y z =>
    simp only [decodeBase, opX_mkOp]
    exact sameAfterWz_refl _

theorem sameAfterWz_decodeEd (op : Byte) :
    SameAfterWz (programOf (decodeEd op b1 b2)) (programOf (decodeEd op c1 c2)) := by
  cases op using opcodeCases with
  | x1 y z =>
    have h : SameAfterWz (programOf (decodeEd1 (mkOp 1 y z) b1 b2)) (programOf (decodeEd1 (mkOp 1 y z) c1 c2)) := by
      cases z using octalCases with
      | y3 =>
        cases y using octalCases with
        | y0 | y2 | y4 | y6 => exact sameAfterWz_of_leaves (leavesWz_writePairAt _ _)
        | y1 | y3 | y5 | y7 => exact sameAfterWz_readPairAt _ _ (setRp _)
      | y0 | y1 | y2 | y4 | y5 | y6 | y7 => cases y using octalCases <;> exact sameAfterWz_cons _ _ _
    simpa [decodeEd, edInvalid, opX_mkOp] using h
  | x0 y z | x2 y z | x3 y z =>
    simp only [decodeEd, opX_mkOp]
    exact sameAfterWz_refl _

theorem sameAfterWz_decodeXy (xy : XY) (op : Byte) :
    SameAfterWz (programOf (decodeXy xy op b1 b2)) (programOf (decodeXy xy op c1 c2)) := by
  cases op using opcodeCases with
  | x0 y z =>
    cases z using octalCases with
    | y2 =>
      cases y using octalCases with
      | y0 | y2 | y4 | y6 => cases xy <;> exact sameAfterWz_of_leaves (leavesWz_writePairAt _ _)
      | y1 | y3 | y5 | y7 => cases xy <;> exact sameAfterWz_readPairAt _ _ (setX _)
    | y0 | y1 | y3 | y4 | y5 | y6 | y7 => cases y using octalCases <;> cases xy <;> exact sameAfterWz_cons _ _ _
  | x1 y z | x2 y z | x3 y z =>
    cases z using octalCases <;> cases y using octalCases <;> cases xy <;> exact sameAfterWz_cons _ _ _

theorem sameAfterWz_decodeXyCb (xy : XY) (op : Byte) :
    SameAfterWz (programOf (decodeXyCb xy b1 op)) (programOf (decodeXyCb xy c1 op)) := by
  cases op using opcodeCases with
  | x0 y z | x1 y z | x2 y z | x3 y z =>
    cases z using octalCases <;> cases y using octalCases <;> cases xy <;> exact sameAfterWz_cons _ _ _

/-- Under every latch, an opcode with one pair of operand bytes and with another. -/
theorem sameAfterWz_decodeUnit {l : Latch} (h : awaitsXyCb l = false) (op : Byte) :
    SameAfterWz (programOf (decodeUnit l op b1 b2)) (programOf (decodeUnit l op c1 c2)) := by
  cases l with
  | none => exact sameAfterWz_decodeBase b1 b2 c1 c2 op
  | cb => exact sameAfterWz_refl _
  | ed => exact sameAfterWz_decodeEd b1 b2 c1 c2 op
  | dd | fd =>
    rw [decodeUnit, decodeUnit]
    split
    · exact sameAfterWz_decodeBase b1 b2 c1 c2 op
    · exact sameAfterWz_decodeXy b1 b2 c1 c2 _ op
  | ddcb | fdcb => cases h

end

/-! ### The instruction in progress -/

/-- The instruction that the step machine decodes from an opcode and from operand bytes in WZ. -/
def instrAt (l : Latch) (op : Byte) (wz : Word) : Instr :=
  if awaitsXyCb l then decodeUnit l (lo8 wz) op 0 else decodeUnit l op (lo8 wz) (hi8 wz)

theorem currentInstr_eq (s : State) : currentInstr s = instrAt s.latch s.opcode s.regs.wz := rfl

theorem sameAfterWz_instrAt (l : Latch) (op : Byte) (wz wz' : Word) :
    SameAfterWz (programOf (instrAt l op wz)) (programOf (instrAt l op wz')) := by
  unfold instrAt
  cases h : awaitsXyCb l with
  | false => exact sameAfterWz_decodeUnit _ _ _ _ h op
  | true =>
    cases l with
    | ddcb => exact sameAfterWz_decodeXyCb _ _ .ix op
    | fdcb => exact sameAfterWz_decodeXyCb _ _ .iy op
    | none | cb | ed | dd | fd => cases h

/-! ### Bytes past the unit do not change its steps -/

theorem decodeUnit_effectiveLatch (l : Latch) (op b1 b2 : Byte) :
    decodeUnit (effectiveLatch l op) op b1 b2 = decodeUnit l op b1 b2 := by
  cases l with
  | none | cb | ed | ddcb | fdcb => rfl
  | dd | fd =>
    unfold effectiveLatch
    cases h : xyIneffective op <;> simp [decodeUnit, h]

/-- After 0xDD and 0xFD, unprefixed, the byte that follows does not change the step. -/
theorem programOf_decodeUnit_xyPrefix {op : Byte} (h : op = 0xDD#8 ∨ op = 0xFD#8) (b1 b2 c1 c2 : Byte) :
    programOf (decodeUnit .none op b1 b2) = programOf (decodeUnit .none op c1 c2) := by
  rcases h with rfl | rfl
  · exact (programOf_xyPrefix b1).1.trans (programOf_xyPrefix c1).1.symm
  · exact (programOf_xyPrefix b1).2.trans (programOf_xyPrefix c1).2.symm

theorem programOf_decodeUnit_congr {l : Latch} {op b1 b2 c1 c2 : Byte}
    (h : [op, b1, b2].take (1 + operandCount l op) = [op, c1, c2].take (1 + operandCount l op)) :
    programOf (decodeUnit l op b1 b2) = programOf (decodeUnit l op c1 c2) := by
  obtain ⟨hwf, hbytes, hlatch⟩ := encodesAs_decodeUnit l op b1 b2
  by_cases hxy : effectiveLatch l op = .none ∧ (op = 0xDD#8 ∨ op = 0xFD#8)
  case pos =>
    rw [← decodeUnit_effectiveLatch, ← decodeUnit_effectiveLatch l op c1, hxy.1]
    exact programOf_decodeUnit_xyPrefix hxy.2 ..
  case neg =>
    have hhead {b : Byte} (hb : encodeUnit (decodeUnit l op b1 b2) = [b]) : op = b := by
      rw [hb, Nat.add_comm, List.take_succ_cons] at hbytes
      exact (List.cons.inj hbytes).1.symm
    have hne {b : Byte} (hb : b = 0xDD#8 ∨ b = 0xFD#8) (hl : latchOf (decodeUnit l op b1 b2) = .none) :
        encodeUnit (decodeUnit l op b1 b2) ≠ [b] := fun he => hxy ⟨hlatch ▸ hl, hhead he ▸ hb⟩
    have hahead := lookahead_eq_nil fun hl => ⟨hne (.inl rfl) hl, hne (.inr rfl) hl⟩
    have hdec := decodeUnit_of_isPrefix hwf (b0 := op) (b1 := c1) (b2 := c2)
      (by rw [hahead, List.append_nil, hbytes, h]; exact List.take_prefix _ _) fun hi => ?_
    · rw [hlatch, decodeUnit_effectiveLatch] at hdec
      rw [hdec]
    · rcases hi with hi | hi
      · exact absurd (by rw [hi]; rfl) (hne (.inl rfl) (by rw [hi]; rfl))
      · exact absurd (by rw [hi]; rfl) (hne (.inr rfl) (by rw [hi]; rfl))

end Sys2Proof.Machine
end

section
/-! PROOFS. The clock edges of whole bus cycles (spec/20_memory.md R220 to R230): up to the pins and its place in the
cycle the machine goes from one invocation of the step machine to the next as the instruction-level cycle does. -/

namespace Sys2Proof.Machine

/-! ### Runs of clock edges inside a unit -/

/-- `n` clock edges, each taken inside a unit by a running core. -/
inductive Runs : Nat → State → State → Prop where
  | refl (s : State) : Runs 0 s s
  | tick {n : Nat} {s u : State} (hb : s.atBoundary = false) (hd : s.dormant = false)
      (rest : Runs n (tick (nextEdge s) s) u) : Runs (n + 1) s u

theorem Runs.trans {m n : Nat} {s t u : State} (h : Runs m s t) (h' : Runs n t u) : Runs (m + n) s u := by
  induction h with
  | refl s => rwa [Nat.zero_add]
  | @tick m s t hb hd rest ih => rw [Nat.add_right_comm]; exact .tick hb hd (ih h')

theorem Runs.one {s : State} (hb : s.atBoundary = false) (hd : s.dormant = false) :
    Runs 1 s (Machine.tick (nextEdge s) s) := .tick hb hd (.refl _)

/-- Edges inside a unit are taken on the way to its boundary. -/
theorem Runs.runToBoundary {n : Nat} {s u : State} (h : Runs n s u) (fuel : Nat) :
    runToBoundary (fuel + n) s = runToBoundary fuel u := by
  induction h with
  | refl s => rfl
  | @tick n s u hb hd rest ih => rw [← ih, ← Nat.add_assoc, Machine.runToBoundary, hb, hd]; rfl

theorem SameCore.refl (s : State) : SameCore s s := rfl

theorem SameCore.hold {s t : State} (h : SameCore s t) : s.seq.hold = t.seq.hold :=
  h.congr (fun s => s.seq.hold) fun _ => rfl
theorem SameCore.quiet {s t : State} (h : SameCore s t) (ht : Quiet t) : Quiet s :=
  ⟨h.hold.trans ht.hold, h.holdLeft.trans ht.left, (h.congr (fun s => s.seq.done) fun _ => rfl).trans ht.done⟩

/-- Between two cycles: the last one has ended with its hold. -/
structure Rested (s : State) : Prop where
  clocked : Clocked s
  ended : s.seq.ended = true
  left : s.seq.holdLeft = 0

/-! ### Held half-phases -/

/-- The held half-phases set. -/
def withLeft (n : Nat) (s : State) : State := { s with seq := { s.seq with holdLeft := n } }

theorem withLeft_self (s : State) : withLeft s.seq.holdLeft s = s := rfl

theorem sameCore_withLeft {s t : State} (h : SameCore s t) (n : Nat) : SameCore (withLeft n s) (withLeft n t) :=
  h.map (f := withLeft n) fun _ => rfl

theorem Clocked.tick_held {t : State} (hc : Clocked t) (h : 0 < t.seq.holdLeft) :
    Machine.tick (nextEdge t) t = heldEdge t := by
  rw [hc.tick, runningEdge, if_pos rfl, if_pos h]

theorem atBoundary_of_held {t : State} (h : 0 < t.seq.holdLeft) : t.atBoundary = false := by
  have hne : (t.seq.holdLeft == 0) = false := by simp; omega
  simp [State.atBoundary, hne]

/-- What a held edge leaves, its release of the lines apart. -/
theorem heldEdge_eq (s : State) :
    let u := withLeft (s.seq.holdLeft - 1) (releaseAfterCycle s)
    heldEdge s = if s.seq.holdLeft - 1 = 0 then if s.seq.hold then finishCycle u else endExec u else u := by
  have hleft := (sameCore_releaseAfterCycle s).holdLeft
  have hhold : (releaseAfterCycle s).seq.hold = s.seq.hold :=
    (sameCore_releaseAfterCycle s).congr (fun s => s.seq.hold) fun _ => rfl
  have h : heldEdge s = if (releaseAfterCycle s).seq.holdLeft - 1 = 0 then
        if (releaseAfterCycle s).seq.hold then
          finishCycle (withLeft ((releaseAfterCycle s).seq.holdLeft - 1) (releaseAfterCycle s))
        else endExec (withLeft ((releaseAfterCycle s).seq.holdLeft - 1) (releaseAfterCycle s))
      else withLeft ((releaseAfterCycle s).seq.holdLeft - 1) (releaseAfterCycle s) := rfl
  rwa [hleft, hhold] at h

theorem releaseAfterCycle_cycle (s : State) : (releaseAfterCycle s).seq.cycle = s.seq.cycle := by
  unfold releaseAfterCycle
  dsimp only
  split <;> rfl

/-- The held half-phases but the last. -/
theorem runs_held : ∀ (m : Nat) {t : State}, Clocked t → t.seq.holdLeft = m + 1 →
    ∃ u, Runs m t u ∧ SameCore u (withLeft 1 t) ∧ u.seq.cycle = t.seq.cycle
  | 0, t, _, h => by
    have hself := withLeft_self t
    rw [h] at hself
    exact ⟨t, .refl t, congrArg bare.on hself.symm, rfl⟩
  | m + 1, t, hc, h => by
    have hpos : 0 < t.seq.holdLeft := by omega
    have hedge : heldEdge t = withLeft (m + 1) (releaseAfterCycle t) := by
      rw [heldEdge_eq, h]; rfl
    have hsame : SameCore (withLeft (m + 1) (releaseAfterCycle t)) (withLeft (m + 1) t) :=
      sameCore_withLeft (sameCore_releaseAfterCycle t) _
    have hclocked : Clocked (withLeft (m + 1) (releaseAfterCycle t)) :=
      hsame.clocked ⟨hc.resetLow, hc.active, hc.halted⟩
    obtain ⟨u, hu, hsu, hcycle⟩ := runs_held m hclocked rfl
    refine ⟨u, .tick (atBoundary_of_held hpos) hc.not_dormant ?_, hsu.trans (sameCore_withLeft hsame 1),
      hcycle.trans (releaseAfterCycle_cycle t)⟩
    rwa [hc.tick_held hpos, hedge]

/-- The last held half-phase. -/
theorem runs_lastHeld {m : Nat} {t : State} (hc : Clocked t) (h : t.seq.holdLeft = m + 1) :
    ∃ u, SameCore u (withLeft 0 t) ∧ u.seq.cycle = t.seq.cycle
      ∧ Runs (m + 1) t (if t.seq.hold then finishCycle u else endExec u) := by
  obtain ⟨u, hu, hsu, hcycle⟩ := runs_held m hc h
  have hleft : u.seq.holdLeft = 1 := hsu.holdLeft
  have hhold : u.seq.hold = t.seq.hold := hsu.congr (fun s => s.seq.hold) fun _ => rfl
  have hcu : Clocked u := hsu.clocked ⟨hc.resetLow, hc.active, hc.halted⟩
  have hpos : 0 < u.seq.holdLeft := by omega
  refine ⟨withLeft 0 (releaseAfterCycle u),
    sameCore_withLeft ((sameCore_releaseAfterCycle u).trans hsu) 0, (releaseAfterCycle_cycle u).trans hcycle,
    hu.trans ?_⟩
  have hone := Runs.one (atBoundary_of_held hpos) hcu.not_dormant
  rw [hcu.tick_held hpos, heldEdge_eq, hleft, hhold] at hone
  exact hone

/-- What follows an invocation: the cycle is over, or a hold comes first. -/
def afterInvocation (t : State) : State := if t.seq.holdLeft = 0 then finishCycle t else t

theorem invoke_eq (s : State) : invoke s = afterInvocation (invokeStep s) := rfl

theorem sameCore_finishCycle (t : State) : SameCore (finishCycle t) (settle t) := rfl

/-- Held half-phases are those that a step asked for. -/
def Waits (t : State) : Prop := t.seq.holdLeft = 0 ∨ t.seq.hold = true

/-- The hold that an invocation asked for elapses. -/
theorem runs_afterInvocation {t : State} (hc : Clocked t) (hw : Waits t) :
    ∃ u, Runs t.seq.holdLeft (afterInvocation t) u ∧ Rested u ∧ SameCore u (settle t) := by
  by_cases hleft : t.seq.holdLeft = 0
  · rw [afterInvocation, if_pos hleft, hleft]
    exact ⟨finishCycle t, .refl _, ⟨⟨hc.resetLow, hc.active, hc.halted⟩, rfl, rfl⟩, sameCore_finishCycle t⟩
  · have hhold : t.seq.hold = true := hw.resolve_left hleft
    obtain ⟨m, hm⟩ : ∃ m, t.seq.holdLeft = m + 1 := ⟨t.seq.holdLeft - 1, by omega⟩
    obtain ⟨u, hsu, -, hu⟩ := runs_lastHeld hc hm
    rw [if_pos hhold] at hu
    have hset : SameCore (settle u) (settle (withLeft 0 t)) := hsu.map (f := settle) fun _ => rfl
    have hcu : Clocked u := hsu.clocked ⟨hc.resetLow, hc.active, hc.halted⟩
    rw [afterInvocation, if_neg hleft, hm]
    exact ⟨finishCycle u, hu, ⟨⟨hcu.resetLow, hcu.active, hcu.halted⟩, rfl, rfl⟩, hset⟩

/-! ### The phases -/

section
variable {c : Cycle} {k : Nat} {t : State} (h : InCycle c k t)
include h

theorem InCycle.not_atBoundary : t.atBoundary = false := by simp [State.atBoundary, h.ended]

theorem InCycle.runs_one : Runs 1 t (Machine.tick (edgeAfter k) t) :=
  h.nextEdge ▸ Runs.one h.not_atBoundary h.clocked.not_dormant

/-- Phases that move the pins only. -/
theorem InCycle.runs_phases : ∀ m, k + m < lastPhase t → (∀ j, k < j → j ≤ k + m → dataPhase c j = false) →
    ∃ u, Runs m t u ∧ InCycle c (k + m) u ∧ SameCore u t
  | 0, _, _ => ⟨t, .refl t, h, .refl t⟩
  | m + 1, hm, hd => by
    obtain ⟨u, hu, hin, hsu⟩ := runs_phases m (by omega) fun j h1 h2 => hd j h1 (by omega)
    have hlast : lastPhase u = lastPhase t := lastPhase_congr (hin.cycle.trans h.cycle.symm) hsu.nextLen
    have hone := hin.runs_one
    rw [hin.tick_before (by omega)] at hone
    exact ⟨_, hu.trans hone, hin.entered _, (hin.sameCore_entered (hd _ (by omega) (by omega))).trans hsu⟩

theorem InCycle.runs_last (hc : c ≠ .exec) (hk : k + 1 = lastPhase t) :
    Runs 1 t (invoke (countStep (Machine.entered (k + 1) t))) := h.tick_last hc hk ▸ h.runs_one

end

/-! ### Whole cycles -/

/-- The step counter one higher. -/
def counted (s : State) : State := { s with seq := { s.seq with step := s.seq.step + 1 } }

theorem countStep_of_ne {s : State} (h : s.seq.cycle ≠ .fetch) : countStep s = counted s := by
  cases hc : s.seq.cycle with
  | fetch => exact absurd hc h
  | read | write | ioRead | ioWrite | exec => simp only [countStep, hc, counted]

/-- The requested transaction made, and the step counter advanced. -/
def cycled (s : State) : State := counted (transact s)

theorem busCycle_eq (s : State) : busCycle s = cycled (settle s) := rfl

theorem SameCore.cycled {s t : State} (h : SameCore s t) : SameCore (Machine.cycled s) (Machine.cycled t) := by
  refine h.map (f := Machine.cycled) fun s => ?_
  have hnext : (bare.on s).seq.nextCycle = s.seq.nextCycle := rfl
  cases hc : s.seq.nextCycle <;> simp only [Machine.cycled, transact, hnext, hc] <;> rfl

/-- The last phase of a cycle other than FETCH and EXEC makes its transaction. -/
theorem sameCore_lastPhase {c : Cycle} {k : Nat} {u : State} (h : InCycle c k u)
    (hnext : u.seq.nextCycle = c) (hf : c ≠ .fetch) (he : c ≠ .exec) (hk : k + 1 = lastPhase u) :
    SameCore (countStep (entered (k + 1) u)) (cycled u) := by
  have hcycle : (inPhase (k + 1) u).seq.cycle = c := h.cycle
  have hcount : (entered (k + 1) u).seq.cycle = c := (h.entered (k + 1)).cycle
  rw [countStep_of_ne (hcount ▸ hf), counted, cycled, counted, entered, phaseActions, transact, hcycle, hnext]
  rw [lastPhase, h.cycle] at hk
  cases c with
  | fetch => exact absurd rfl hf
  | exec => exact absurd rfl he
  | read | write | ioRead | ioWrite =>
    obtain rfl := Nat.succ.inj hk
    rfl

/-- The edges of a cycle but the first. -/
theorem cycleEdges_eq {s t : State} {c : Cycle} (hnext : s.seq.nextCycle = c) (hcycle : t.seq.cycle = c)
    (he : c ≠ .exec) : cycleEdges s.seq = lastPhase t + 1 := by
  rw [cycleEdges, lastPhase, hnext, hcycle]
  cases c with
  | exec => exact absurd rfl he
  | fetch | read | write | ioRead | ioWrite => rfl

/-- Before its last phase a cycle other than FETCH moves the pins only. -/
theorem dataPhase_before_last {c : Cycle} {j : Nat} {t : State} (hcycle : t.seq.cycle = c) (hf : c ≠ .fetch)
    (hj : j < lastPhase t) : dataPhase c j = false := by
  rw [lastPhase, hcycle] at hj
  cases c with
  | fetch => exact absurd rfl hf
  | exec => rfl
  | read | write | ioRead | ioWrite =>
    simp only [dataPhase, beq_eq_false_iff_ne]
    exact Nat.ne_of_lt hj

section
variable {s : State} (hs : Rested s) (hf : s.seq.nextCycle ≠ .fetch)
include hs hf

theorem Rested.runs_cycle (he : s.seq.nextCycle ≠ .exec) :
    ∃ v, Runs (cycleEdges s.seq - 1) (startCycle s) (invoke v) ∧ SameCore v (cycled s) := by
  have hlen : s.seq.nextCycle = .exec → 0 < s.seq.nextLen := fun h => absurd h he
  have h0 := inCycle_startCycle hs.clocked hs.left hlen
  have hs0 := sameCore_startCycle hlen
  have hpos := lastPhase_pos (s := startCycle s) fun h => absurd (h0.cycle ▸ h) he
  obtain ⟨u, hu, hin, hsu⟩ := h0.runs_phases (lastPhase (startCycle s) - 1) (by omega) fun j _ hj =>
    dataPhase_before_last h0.cycle hf (by omega)
  have hlast : lastPhase u = lastPhase (startCycle s) := lastPhase_congr (hin.cycle.trans h0.cycle.symm) hsu.nextLen
  have hk : 0 + (lastPhase (startCycle s) - 1) + 1 = lastPhase u := by omega
  refine ⟨_, ?_, (sameCore_lastPhase hin (hsu.trans hs0).nextCycle hf he hk).trans (hsu.trans hs0).cycled⟩
  have hedges := cycleEdges_eq rfl h0.cycle he
  rw [show cycleEdges s.seq - 1 = lastPhase (startCycle s) - 1 + 1 by omega]
  exact hu.trans (hin.runs_last he hk)

end

/-- The end of an EXEC cycle makes its transaction and invokes the step machine. -/
theorem sameCore_endExec {s u : State} (hnext : s.seq.nextCycle = .exec) (hcycle : u.seq.cycle = .exec)
    (hu : SameCore u s) : ∃ v, endExec u = invoke v ∧ SameCore v (cycled s) := by
  refine ⟨counted (record .exec 0 0 u.seq.nextLen u), ?_, ?_⟩
  · rw [endExec, countStep_of_ne (by simp [record, hcycle])]
  · rw [cycled, transact, hnext, hu.nextLen]
    exact hu.map (f := fun u => counted (record .exec 0 0 s.seq.nextLen u)) fun _ => rfl

theorem lastPhase_exec {t : State} (h : t.seq.cycle = .exec) : lastPhase t = 2 * min t.seq.nextLen 4 - 1 := by
  rw [lastPhase, h]

/-- The last phase of an EXEC cycle. -/
theorem enterPhase_exec {s : State} (hc : s.seq.cycle = .exec) (h : s.seq.phase = lastPhase s) :
    enterPhase s = if 4 < s.seq.nextLen then withLeft (2 * (s.seq.nextLen - 4)) s else endExec s := by
  have hk : phaseActions s = s := by rw [phaseActions, hc]
  rw [enterPhase, hk, if_pos h, if_pos hc]
  rfl

/-- The held half-phases that end a long EXEC cycle. -/
theorem runs_execTail {s t : State} (hhold : s.seq.hold = false) (hleft : s.seq.holdLeft = 0)
    (hnext : s.seq.nextCycle = .exec) (ht : SameCore t s)
    (hc : Clocked t) (hcycle : t.seq.cycle = .exec) (m : Nat) :
    ∃ v, Runs (m + 1) (withLeft (m + 1) t) (invoke v) ∧ SameCore v (cycled s) := by
  obtain ⟨w, hsw, hwcycle, hw⟩ := runs_lastHeld (m := m) (t := withLeft (m + 1) t)
    ⟨hc.resetLow, hc.active, hc.halted⟩ rfl
  have hhold : (withLeft (m + 1) t).seq.hold = false := ht.hold.trans hhold
  have hself : withLeft 0 t = t := by rw [← ht.holdLeft.trans hleft, withLeft_self]
  have hws : SameCore w s := SameCore.trans (hself ▸ hsw) ht
  obtain ⟨v, hv, hsv⟩ := sameCore_endExec hnext (hwcycle.trans hcycle) hws
  rw [hhold, if_neg nofun, hv] at hw
  exact ⟨v, hw, hsv⟩

theorem InCycle.runs_lastExec {k : Nat} {u : State} (h : InCycle .exec k u) (hk : k + 1 = lastPhase u) :
    Runs 1 u (if 4 < u.seq.nextLen then withLeft (2 * (u.seq.nextLen - 4)) (inPhase (k + 1) u)
      else endExec (inPhase (k + 1) u)) := by
  have hone := h.runs_one
  rwa [h.tick, enterPhase_exec (s := inPhase (k + 1) u) h.cycle hk] at hone

theorem Rested.runs_exec {s : State} (hs : Rested s) (hhold : s.seq.hold = false) (hnext : s.seq.nextCycle = .exec)
    (hlen : 0 < s.seq.nextLen) :
    ∃ v, Runs (cycleEdges s.seq - 1) (startCycle s) (invoke v) ∧ SameCore v (cycled s) := by
  have h0 : InCycle .exec 0 (startCycle s) := hnext ▸ inCycle_startCycle hs.clocked hs.left fun _ => hlen
  have hs0 := sameCore_startCycle (s := s) fun _ => hlen
  have hlast0 := lastPhase_exec h0.cycle
  rw [hs0.nextLen] at hlast0
  obtain ⟨u, hu, hin, hsu⟩ := h0.runs_phases (lastPhase (startCycle s) - 1) (by omega) fun _ _ _ => rfl
  have hsame := hsu.trans hs0
  have hlast : lastPhase u = lastPhase (startCycle s) := lastPhase_congr (hin.cycle.trans h0.cycle.symm) hsu.nextLen
  have hk : 0 + (lastPhase (startCycle s) - 1) + 1 = lastPhase u := by omega
  have hone := hin.runs_lastExec hk
  have hedges : cycleEdges s.seq = 2 * s.seq.nextLen := by rw [cycleEdges, hnext]
  rw [hsame.nextLen] at hone
  obtain ⟨t, ht, hst, hct, hcycle⟩ : ∃ t, t = inPhase (0 + (lastPhase (startCycle s) - 1) + 1) u
      ∧ SameCore t s ∧ Clocked t ∧ t.seq.cycle = .exec :=
    ⟨_, rfl, hsame, ⟨hin.clocked.resetLow, hin.clocked.active, hin.clocked.halted⟩, hin.cycle⟩
  rw [← ht] at hone
  by_cases hlong : 4 < s.seq.nextLen
  case neg =>
    obtain ⟨v, hv, hsv⟩ := sameCore_endExec hnext hcycle hst
    rw [if_neg hlong, hv] at hone
    refine ⟨v, ?_, hsv⟩
    rw [show cycleEdges s.seq - 1 = lastPhase (startCycle s) - 1 + 1 by omega]
    exact hu.trans hone
  case pos =>
    obtain ⟨m, hm⟩ : ∃ m, 2 * (s.seq.nextLen - 4) = m + 1 := ⟨2 * (s.seq.nextLen - 4) - 1, by omega⟩
    obtain ⟨v, hv, hsv⟩ := runs_execTail hhold hs.left hnext hst hct hcycle m
    rw [if_pos hlong, hm] at hone
    refine ⟨v, ?_, hsv⟩
    rw [show cycleEdges s.seq - 1 = lastPhase (startCycle s) - 1 + (1 + (m + 1)) by omega]
    exact hu.trans (hone.trans hv)

/-- The requested cycle and its transaction, to the next invocation. -/
theorem Rested.runs {s : State} (hs : Rested s) (hhold : s.seq.hold = false) (hf : s.seq.nextCycle ≠ .fetch)
    (hlen : s.seq.nextCycle = .exec → 0 < s.seq.nextLen) :
    ∃ v, Runs (cycleEdges s.seq - 1) (startCycle s) (invoke v) ∧ SameCore v (cycled s) := by
  by_cases he : s.seq.nextCycle = .exec
  · exact hs.runs_exec hhold he (hlen he)
  · exact hs.runs_cycle hf he

/-- The step counter set. -/
def withStep (n : Nat) (s : State) : State := { s with seq := { s.seq with step := n } }

/-- A FETCH sampled, the step counter at 1, before the register updates. -/
def fetchSampled (s : State) : State :=
  withStep 1 (sampleMemory .fetch s.regs.pc 4 s)

theorem fetchOpcode_eq (s : State) : fetchOpcode s = fetchUpdates (fetchSampled s) := rfl

theorem Rested.runs_fetch {s : State} (hs : Rested s) (hnext : s.seq.nextCycle = .fetch) :
    ∃ v, Runs 7 (startCycle s) (invoke v) ∧ SameCore v (fetchSampled s) := by
  have hlen : s.seq.nextCycle = .exec → 0 < s.seq.nextLen := by simp [hnext]
  have h0 : InCycle .fetch 0 (startCycle s) := hnext ▸ inCycle_startCycle hs.clocked hs.left hlen
  have hlast {t : State} {k : Nat} (h : InCycle .fetch k t) : lastPhase t = 7 := lastPhase_fetch h.cycle
  obtain ⟨u, hu, hin, hsu⟩ := h0.runs_phases 3 (by rw [hlast h0]; decide) fun j _ hj => by
    simp [dataPhase]; omega
  have hone := hin.runs_one
  rw [hin.tick_before (by rw [hlast hin]; decide)] at hone
  have hin' : InCycle .fetch 4 (entered 4 u) := hin.entered 4
  have hsample : SameCore (entered 4 u) (sampleMemory .fetch u.regs.pc 4 u) := by
    rw [entered_fetch hin.cycle]
    rfl
  obtain ⟨w, hw, hinw, hsw⟩ := hin'.runs_phases 2 (by rw [hlast hin']; decide) fun j h4 hj => by
    simp [dataPhase]; omega
  have hend := hinw.runs_last nofun (hlast hinw).symm
  refine ⟨_, hu.trans (hone.trans (hw.trans hend)), ?_⟩
  have hcount : countStep (entered (4 + 2 + 1) w) = entered 7 w := by
    rw [countStep, (hinw.entered 7).cycle]
  have hstep : SameCore (entered 7 w) (withStep 1 w) := by
    rw [entered_fetch hinw.cycle]
    rfl
  rw [hcount]
  refine hstep.trans (((hsw.trans hsample).trans ?_).map (f := withStep 1) fun _ => rfl)
  exact (hsu.trans (sameCore_startCycle hlen)).map (f := fun u => sampleMemory .fetch u.regs.pc 4 u) fun _ => rfl

/-! ### From an invocation to the next -/

/-- What a boundary has besides the end of a cycle. -/
def unitEnds (s : State) : Bool :=
  if awaitsXyCb s.latch then s.seq.nextCycle == .read && s.seq.step == 1 else s.seq.nextCycle == .fetch

theorem atBoundary_eq (s : State) : s.atBoundary = (s.seq.ended && s.seq.holdLeft == 0 && unitEnds s) := rfl

/-- An invocation that requests a cycle, its hold and the cycle, to the next invocation. -/
theorem runs_request {t : State} (hc : Clocked t) (hw : Waits t) (hf : t.seq.nextCycle ≠ .fetch)
    (hlen : t.seq.nextCycle = .exec → 0 < t.seq.nextLen) (hmid : unitEnds t = false) :
    ∃ v, Runs (t.seq.holdLeft + cycleEdges t.seq) (afterInvocation t) (invoke v) ∧ SameCore v (busCycle t) := by
  obtain ⟨u, hu, hrest, hsu⟩ := runs_afterInvocation hc hw
  have hends : unitEnds u = false := (hsu.congr unitEnds fun _ => rfl).trans hmid
  have hedge : nextEdge u = .rising := by simp [nextEdge, hrest.left, hrest.ended]
  have hnext : u.seq.nextCycle = t.seq.nextCycle := hsu.nextCycle
  have hulen : u.seq.nextLen = t.seq.nextLen := hsu.nextLen
  have hone := Runs.one (s := u) (by rw [atBoundary_eq, hends, Bool.and_false]) hrest.clocked.not_dormant
  rw [hedge, tick_startCycle hrest.clocked hrest.ended hrest.left] at hone
  obtain ⟨v, hv, hsv⟩ := hrest.runs hsu.hold (hnext ▸ hf) fun h => hulen ▸ hlen (hnext ▸ h)
  have hedges : cycleEdges u.seq = cycleEdges t.seq := hsu.congr (fun s => cycleEdges s.seq) fun _ => rfl
  have hpos : 0 < cycleEdges t.seq := by
    unfold cycleEdges
    split
    case h_6 h => have := hlen h; omega
    all_goals decide
  refine ⟨v, ?_, hsv.trans hsu.cycled⟩
  rw [show t.seq.holdLeft + cycleEdges t.seq = t.seq.holdLeft + (1 + (cycleEdges u.seq - 1)) by omega]
  exact hu.trans (hone.trans hv)

end Sys2Proof.Machine
end

section
/-! PROOFS. The step machine's own steps of an instruction, invoked at clock edges one cycle after another, and the run
of the same steps at the instruction level (spec/40_step_machine.md R401, R404, R405, R411). -/

namespace Sys2Proof.Machine

/-! ### A hold and a done signal that stand already -/

/-- The hold and the done signal of a state, as a change of its settled form. -/
def unseen (s : State) : Blur := { Blur.none with stale := (s.seq.hold, s.seq.done) }

theorem unseen_on_settle {s : State} (h : s.seq.holdLeft = 0) : (unseen s).on (settle s) = s := by
  have hon : (unseen s).on (settle s) = withLeft 0 s := by
    simp [unseen, Blur.on, Blur.regs, Blur.seq, Blur.none, settle, withLeft]
  rw [hon, ← h, withLeft_self]

theorem busCycle_unseen_on (s t : State) : busCycle ((unseen s).on t) = busCycle t := rfl

theorem settle_busCycle (s : State) : settle (busCycle s) = busCycle s := by
  unfold busCycle transact
  cases (settle s).seq.nextCycle <;> rfl

/-- The invocation at which the instruction's own steps begin, the unit's bytes being fetched (R400, R406, R410). -/
def firstStep (s : State) : Nat := if awaitsXyCb s.latch then 3 else 1 + operandCount s.latch s.opcode

/-- What a bus cycle leaves alone, and the step counter. -/
theorem busCycle_frame (s : State) : (busCycle s).latch = s.latch ∧ (busCycle s).fields = s.fields
    ∧ (busCycle s).regs = s.regs ∧ (busCycle s).seq.step = s.seq.step + 1 := by
  unfold busCycle transact
  cases (settle s).seq.nextCycle <;> exact ⟨rfl, rfl, rfl, rfl⟩

theorem Clocked.busCycle {s : State} (h : Clocked s) : Clocked (Machine.busCycle s) := by
  unfold Machine.busCycle transact
  cases (settle s).seq.nextCycle <;> exact ⟨h.resetLow, h.active, h.halted⟩

theorem instrAt_frame {s t : State} (hl : t.latch = s.latch) (hf : t.fields = s.fields) :
    currentInstr t = instrAt s.latch s.opcode t.regs.wz ∧ firstStep t = firstStep s := by
  simp only [currentInstr_eq, firstStep, State.opcode, hl, hf, and_self]

/-! ### The end of a unit -/

theorem runToBoundary_of_atBoundary {s : State} (h : s.atBoundary = true) (fuel : Nat) : runToBoundary fuel s = s := by
  cases fuel with
  | zero => rfl
  | succ n => simp [runToBoundary, h]

/-- A held edge takes one half-phase off a hold that a step asked for. -/
theorem heldEdge_of_hold {t : State} (h : t.seq.hold = true) :
    heldEdge t = afterInvocation (withLeft (t.seq.holdLeft - 1) (releaseAfterCycle t)) := by
  rw [heldEdge_eq, h]
  rfl

/-- The hold of a unit's last step changes nothing more. -/
theorem runToBoundary_afterInvocation (fuel : Nat) : ∀ {t : State}, t.resetLow = false → Waits t → unitEnds t = true →
    (runToBoundary fuel (afterInvocation t)).arch = t.arch := by
  induction fuel with
  | zero =>
    intro t _ _ _
    rw [runToBoundary, afterInvocation]
    split <;> rfl
  | succ fuel ih =>
    intro t hr hw hu
    by_cases hleft : t.seq.holdLeft = 0
    case pos =>
      have hb : (finishCycle t).atBoundary = true := by rw [atBoundary_eq]; exact hu
      rw [afterInvocation, if_pos hleft, runToBoundary_of_atBoundary hb]
      rfl
    case neg =>
      have hpos := Nat.pos_of_ne_zero hleft
      rw [afterInvocation, if_neg hleft, runToBoundary, atBoundary_of_held hpos]
      cases hd : t.dormant
      case true => rfl
      case false =>
        have hsame : SameCore (withLeft (t.seq.holdLeft - 1) (releaseAfterCycle t)) (withLeft (t.seq.holdLeft - 1) t) :=
          sameCore_withLeft (sameCore_releaseAfterCycle t) _
        have hhold := hw.resolve_left hleft
        simp only [Bool.or_self, Bool.false_eq_true, if_false]
        rw [(clocked_of_not_dormant hd hr).tick_held hpos, heldEdge_of_hold hhold,
          ih ((hsame.congr State.resetLow fun _ => rfl).trans hr) (.inr (hsame.hold.trans hhold))
            ((hsame.congr unitEnds fun _ => rfl).trans hu), hsame.arch]
        rfl

/-! ### One of the instruction's own steps -/

/-- The step machine is before step `k` of an instruction, and `p` are the steps to come. -/
structure Ready (k : Nat) (p : Program) (v : State) : Prop where
  program : (programOf (currentInstr v)).drop k = p
  step : v.seq.step = firstStep v + k
  left : v.seq.holdLeft = 0
  clocked : Clocked v

theorem Ready.of_sameCore {k : Nat} {p : Program} {v w : State} (h : Ready k p w) (hv : SameCore v w) :
    Ready k p v where
  program := (hv.congr (fun v => (programOf (currentInstr v)).drop k) fun _ => rfl).trans h.program
  step := by
    rw [hv.congr (fun v => v.seq.step) fun _ => rfl, hv.congr firstStep fun _ => rfl]
    exact h.step
  left := hv.holdLeft.trans h.left
  clocked := hv.clocked h.clocked

section
variable {k : Nat} {f : StepFn} {p : Program} {v : State} (h : Ready k (f :: p) v)
include h

theorem Ready.getElem? : (programOf (currentInstr v))[k]? = some f := by
  rw [← List.head?_drop, h.program, List.head?_cons]

theorem Ready.runStep : Machine.runStep k v = f v := by
  rw [Machine.runStep, h.getElem?]

theorem Ready.mem : f ∈ programOf (currentInstr v) := List.mem_of_getElem? h.getElem?

theorem Ready.commutes (m : Blur) (hwz : m.wz = id) (hx : m.index = id) (hs : m.shadow = id) : Commutes m (f :: p) :=
  fun g hg => commutes_programOf m hwz (currentInstr v) (fun _ => hx) (fun _ => hs) g
    (List.mem_of_mem_drop (h.program ▸ hg))

/-- The step does not see a hold and a done signal that stand already. -/
theorem Ready.step_settle : f v = (unseen v).on (f (settle v)) := by
  have hcomm := h.commutes (unseen v) rfl rfl rfl f (List.mem_cons_self ..) (settle v)
  rwa [unseen_on_settle h.left] at hcomm

theorem Ready.keeps : StepKeeps v (f v) := programOf_keeps _ f h.mem v

theorem Ready.waits {n : Nat} (hf : Held n (f (settle v)).seq) : Waits (f v) := by
  rw [h.step_settle]
  rcases hf with ⟨-, hl⟩ | ⟨hh, -⟩
  · exact .inl hl
  · exact .inr (by simp [Blur.on, Blur.seq, hh])

/-- Later invocations make one step each. -/
theorem Ready.invokeStep (hk : 0 < k) : Machine.invokeStep v = f v := by
  have hstep := h.step
  unfold firstStep at hstep
  unfold Machine.invokeStep
  cases hx : awaitsXyCb v.latch <;> simp only [hx, Bool.false_eq_true, if_true, if_false] at hstep ⊢
  case true =>
    have h3 : v.seq.step - 3 = k := by omega
    simp only [invokeXyCb, if_neg (show v.seq.step ≠ 2 by omega), if_neg (show v.seq.step ≠ 3 by omega), h3, h.runStep]
  case false =>
    have hn : v.seq.step - 1 - operandCount v.latch v.opcode = k := by omega
    simp only [invokePlain, if_neg (show v.seq.step ≠ 1 by omega),
      if_neg (show ¬(2 ≤ v.seq.step ∧ v.seq.step ≤ operandCount v.latch v.opcode + 1) by omega),
      if_pos (show operandCount v.latch v.opcode < v.seq.step by omega), hn, h.runStep]

/-- A step that leaves the unit unfinished leaves a running core. -/
theorem Ready.clocked_step (hstep : (f v).seq.step = v.seq.step) : Clocked (f v) := by
  obtain ⟨hkeeps, hhalted⟩ := h.keeps
  refine ⟨hkeeps.resetLow.trans h.clocked.resetLow, hkeeps.active.trans h.clocked.active, ?_⟩
  rcases hhalted with hh | ⟨-, h0, -⟩
  · exact hh.trans h.clocked.halted
  · have hfirst := h.step
    unfold firstStep at hfirst
    split at hfirst <;> omega

/-- The steps after it are those of the instruction in progress, whether or not it wrote WZ. -/
theorem Ready.drop_step {t : State} (hl : t.latch = v.latch) (hf : t.fields = v.fields)
    (hwz : LeavesWz f → t.regs.wz = v.regs.wz) : (programOf (currentInstr t)).drop (k + 1) = p := by
  have hdrop : (programOf (currentInstr v)).drop (k + 1) = p := by
    rw [← List.tail_drop, h.program, List.tail_cons]
  rw [(instrAt_frame hl hf).1]
  rcases sameAfterWz_instrAt v.latch v.opcode v.regs.wz t.regs.wz k f h.getElem? with hleaves | hsame
  · rw [hwz hleaves]
    exact hdrop
  · rw [← hsame]
    exact hdrop

/-- The step's requested cycle leads to the next step. -/
theorem Ready.next {a : Nat} (hf : Requests a (settle v) (f (settle v))) : Ready (k + 1) p (busCycle (f v)) := by
  have hstep : (f v).seq.step = v.seq.step := by rw [h.step_settle]; exact hf.step
  have hclocked := h.clocked_step hstep
  rw [h.step_settle, busCycle_unseen_on]
  obtain ⟨hlatch, hfields, hregs, hcount⟩ := busCycle_frame (f (settle v))
  have hl := hlatch.trans hf.latch
  have hfi := hfields.trans hf.fields
  refine ⟨h.drop_step hl hfi fun hleaves => ?_, ?_, (quiet_busCycle _).left, ?_⟩
  · rw [hregs]
    exact hleaves (settle v) hf.done
  · rw [hcount, hf.step, (instrAt_frame hl hfi).2]
    exact congrArg (· + 1) h.step
  · rw [← busCycle_unseen_on v, ← h.step_settle]
    exact hclocked.busCycle

/-- The edges of the step's requested cycle. -/
theorem Ready.runs_request {a : Nat} (hf : Requests a (settle v) (f (settle v))) :
    ∃ m w, m ≤ a ∧ Runs m (afterInvocation (f v)) (invoke w) ∧ SameCore w (busCycle (f v)) := by
  have hv := h.step_settle
  have hstep : (f v).seq.step = v.seq.step := by rw [hv]; exact hf.step
  have hmid : unitEnds (f v) = false := by
    have hlatch : (f v).latch = v.latch := by rw [hv]; exact hf.latch
    have hcycle : (f v).seq.nextCycle ≠ .fetch := by rw [hv]; exact hf.cycle
    have hfirst := h.step
    unfold firstStep at hfirst
    unfold unitEnds
    rw [hlatch, hstep]
    cases hx : awaitsXyCb v.latch <;> simp only [hx, Bool.false_eq_true, if_true, if_false] at hfirst ⊢
    · exact beq_false_of_ne hcycle
    · rw [beq_false_of_ne (show v.seq.step ≠ 1 by omega), Bool.and_false]
  obtain ⟨w, hw, hsw⟩ := Machine.runs_request (h.clocked_step hstep) (h.waits hf.held) (by rw [hv]; exact hf.cycle)
    (by rw [hv]; exact hf.len) hmid
  exact ⟨_, w, by rw [hv]; exact hf.edges, hw, hsw⟩

/-- A step that ends the unit, its hold apart. -/
theorem Ready.runToBoundary_last (fuel : Nat) (hw : Waits (f v)) (hu : unitEnds (f (settle v)) = true) :
    (runToBoundary fuel (afterInvocation (f v))).arch = (f (settle v)).arch := by
  have hr : (f v).resetLow = false := h.keeps.1.resetLow.trans h.clocked.resetLow
  have hv := h.step_settle
  rw [runToBoundary_afterInvocation fuel hr hw (by rw [hv]; exact hu), hv]
  rfl

end

/-! ### All of the instruction's own steps -/

theorem unitEnds_signalDone (s : State) : unitEnds (signalDone s) = true := rfl

section
variable {k : Nat} {f : StepFn} {p : Program} {v : State} (h : Ready k (f :: p) v)
include h

theorem Ready.runToBoundary_signals (fuel : Nat) {n : Nat} (hf : Signals n (f (settle v))) :
    (runToBoundary fuel (afterInvocation (f v))).arch = (f (settle v)).arch := by
  obtain ⟨u, hu, hheld⟩ := hf
  refine h.runToBoundary_last fuel (h.waits (n := n) ?_) ?_
  · rw [hu]; exact hheld
  · rw [hu]; exact unitEnds_signalDone u

end

theorem Paced.eq_cons {n : Nat} {p : Program} (h : Paced n p) : ∃ f q, p = f :: q := by
  cases h <;> exact ⟨_, _, rfl⟩

/-- The edges and the run of the steps to come agree. -/
theorem Paced.runToBoundary {n : Nat} {q : Program} (hp : Paced n q) : ∀ {k : Nat} {f : StepFn} {p : Program}
    {v : State}, q = f :: p → Ready k q v → ∀ fuel, n ≤ fuel →
    (Machine.runToBoundary fuel (afterInvocation (f v))).arch = (runSteps q (settle v)).arch := by
  induction hp with
  | @last n g hg =>
    intro k f p v hq h fuel _
    cases hq
    exact h.runToBoundary_signals fuel (hg _ (quiet_settle v))
  | @cons a n g p hg rest ih =>
    intro k f p v hq h fuel hfuel
    cases hq
    obtain ⟨e, q, rfl⟩ := rest.eq_cons
    rw [runSteps_cons]
    rcases hg _ (quiet_settle v) with hs | hr
    · rw [h.runToBoundary_signals fuel hs]
      obtain ⟨u, hu, -⟩ := hs
      rw [hu]
      rfl
    · obtain ⟨m, w, hm, hruns, hw⟩ := h.runs_request hr
      have hnext := (h.next hr).of_sameCore hw
      obtain ⟨fuel, rfl⟩ : ∃ fuel', fuel = fuel' + m := ⟨fuel - m, by omega⟩
      have hfin := ih rfl hnext fuel (by omega)
      rw [hruns.runToBoundary, invoke_eq, hnext.invokeStep k.succ_pos, hfin, if_neg (by simp [hr.done])]
      have hset : SameCore (settle w) (busCycle (g (settle v))) := by
        rw [← settle_busCycle, ← busCycle_unseen_on v, ← h.step_settle]
        exact hw.map (f := settle) fun _ => rfl
      exact (hset.map (runSteps_on rfl (hnext.commutes bare rfl rfl rfl))).arch

end Sys2Proof.Machine
end

section
/-! PROOFS. The fetch of a unit at clock edges (spec/40_step_machine.md R400, R403, R406, R410, R416), and the agreement
of the edges of a whole unit with the instruction-level step. -/

namespace Sys2Proof.Machine

/-! ### The invocations that fetch -/

theorem mkOp_fieldsOf (op : Byte) : mkOp (fieldsOf op).x (fieldsOf op).y (fieldsOf op).z = op := by
  revert op; decide

theorem opcode_of_fields {s : State} {op : Byte} (h : s.fields = fieldsOf op) : s.opcode = op := by
  rw [State.opcode, h, mkOp_fieldsOf]

/-- Only a FETCH with an operand to come is held, for one T-state. -/
theorem opcodeHold_eq_zero {l : Latch} {op : Byte} (h : operandCount l op = 0) : opcodeHold l op = 0 := by
  revert op; cases l <;> decide

theorem opcodeHold_le (l : Latch) (op : Byte) : opcodeHold l op ≤ 1 := by
  revert op; cases l <;> decide

/-- The updates of a FETCH, with the hold of DJNZ. -/
def heldFetch (s : State) : State :=
  let s := fetchUpdates s
  if opcodeHold s.latch s.opcode = 0 then s else holdFor (opcodeHold s.latch s.opcode) s

/-- The invocation at the end of a FETCH. -/
theorem invokePlain_fetch {s : State} (h : s.seq.step = 1) {n : Nat}
    (hn : operandCount (fetchUpdates s).latch (fetchUpdates s).opcode = n) :
    invokePlain s = if 0 = n then runStep 0 (heldFetch s) else requestOperand (heldFetch s) := by
  subst hn
  by_cases hn : operandCount (fetchUpdates s).latch (fetchUpdates s).opcode = 0
  · rw [if_pos hn.symm, heldFetch, if_pos (opcodeHold_eq_zero hn)]
    simp [invokePlain, h, hn]
  · rw [if_neg (Ne.symm hn)]
    have hlt : ¬ operandCount (fetchUpdates s).latch (fetchUpdates s).opcode < 1 := by omega
    by_cases hh : opcodeHold (fetchUpdates s).latch (fetchUpdates s).opcode = 0 <;>
      simp [invokePlain, heldFetch, h, hlt, hh]

/-- The invocation at the end of the READ of an operand byte. -/
theorem invokePlain_operand {s : State} {n : Nat} (hn : operandCount s.latch s.opcode = n) {j : Nat}
    (h : s.seq.step = j + 2) (hj : j < n) :
    invokePlain s
      = if j + 1 = n then runStep 0 (takeOperand (j + 2) s) else requestOperand (takeOperand (j + 2) s) := by
  have htake : 2 ≤ j + 2 ∧ j + 2 ≤ n + 1 := ⟨by omega, by omega⟩
  simp only [invokePlain, h, if_neg (show ¬ j + 2 = 1 by omega), hn, if_pos htake]
  by_cases hlast : j + 1 = n
  · rw [if_pos hlast, if_pos (show n < j + 2 by omega), show j + 2 - 1 - n = 0 by omega]
  · rw [if_neg hlast, if_neg (show ¬ n < j + 2 by omega), if_neg (show ¬ (j + 2 = 1 ∧ _) by omega)]

/-- The READ of a byte at PC, to the invocation at its end. -/
theorem runs_operand {t : State} (hc : Clocked t) (hw : Waits t) (hmid : awaitsXyCb t.latch = true → t.seq.step ≠ 1) :
    ∃ w, Runs (t.seq.holdLeft + 6) (afterInvocation (requestOperand t)) (invoke w)
      ∧ SameCore w (busCycle (requestOperand t)) := by
  refine runs_request (t := requestOperand t) ⟨hc.resetLow, hc.active, hc.halted⟩ hw nofun nofun ?_
  change (if awaitsXyCb t.latch then Cycle.read == .read && t.seq.step == 1 else Cycle.read == .fetch) = false
  cases hx : awaitsXyCb t.latch
  · rfl
  · exact beq_false_of_ne (hmid hx)

/-- The step machine has taken `j` of the `n` operand bytes of a unit, none of DDCB/FDCB. -/
structure Fetching (n j : Nat) (u : State) : Prop where
  latch : awaitsXyCb u.latch = false
  count : operandCount u.latch u.opcode = n
  step : u.seq.step = j + 1
  clocked : Clocked u
  waits : Waits u

theorem Fetching.of_sameCore {n j : Nat} {u w : State} (h : Fetching n j w) (hu : SameCore u w) : Fetching n j u where
  latch := (hu.congr (fun s => awaitsXyCb s.latch) fun _ => rfl).trans h.latch
  count := (hu.congr (fun s => operandCount s.latch s.opcode) fun _ => rfl).trans h.count
  step := (hu.congr (fun s => s.seq.step) fun _ => rfl).trans h.step
  clocked := hu.clocked h.clocked
  waits := by
    rw [Waits, hu.holdLeft, hu.hold]
    exact h.waits

/-- What follows it: the instruction's first own step, or the request of the next operand byte. -/
def fetchOn (n j : Nat) (u : State) : State := if j = n then runStep 0 u else requestOperand u

theorem takeOperand_frame (k : Nat) (s : State) : (takeOperand k s).latch = s.latch
    ∧ (takeOperand k s).fields = s.fields ∧ (takeOperand k s).seq = s.seq := by
  unfold takeOperand
  split <;> exact ⟨rfl, rfl, rfl⟩

theorem Clocked.takeOperand {s : State} (h : Clocked s) (k : Nat) : Clocked (Machine.takeOperand k s) := by
  unfold Machine.takeOperand
  split <;> exact ⟨h.resetLow, h.active, h.halted⟩

/-- The READ of one more operand byte. -/
theorem Fetching.runs {n j : Nat} {u : State} (h : Fetching n j u) (hj : j < n) :
    ∃ w, Runs (u.seq.holdLeft + 6) (afterInvocation (requestOperand u))
        (afterInvocation (fetchOn n (j + 1) (takeOperand (j + 2) w)))
      ∧ SameCore w (busCycle (requestOperand u)) ∧ Fetching n (j + 1) (takeOperand (j + 2) w)
      ∧ (takeOperand (j + 2) w).seq.holdLeft = 0 := by
  obtain ⟨w, hw, hsw⟩ := runs_operand h.clocked h.waits (by simp [h.latch])
  obtain ⟨hlatch, hfields, -, hstep⟩ := busCycle_frame (requestOperand u)
  replace hlatch : w.latch = u.latch := (hsw.congr State.latch fun _ => rfl).trans hlatch
  replace hfields : w.fields = u.fields := (hsw.congr State.fields fun _ => rfl).trans hfields
  replace hstep : w.seq.step = j + 2 := by
    rw [hsw.congr (fun s => s.seq.step) fun _ => rfl, hstep]
    exact congrArg (· + 1) h.step
  have hcount : operandCount w.latch w.opcode = n := by
    rw [State.opcode, hlatch, hfields]
    exact h.count
  have hquiet := hsw.quiet (quiet_busCycle _)
  have hclocked := hsw.clocked (Clocked.busCycle (s := requestOperand u)
    ⟨h.clocked.resetLow, h.clocked.active, h.clocked.halted⟩)
  obtain ⟨htl, htf, hts⟩ := takeOperand_frame (j + 2) w
  refine ⟨w, ?_, hsw, ⟨?_, ?_, ?_, hclocked.takeOperand _, .inl ?_⟩, ?_⟩
  · rwa [invoke_eq, invokeStep, hlatch, h.latch, if_neg nofun, invokePlain_operand hcount hstep hj] at hw
  · rw [htl, hlatch, h.latch]
  · rw [State.opcode, htl, htf]
    exact hcount
  · rw [hts, hstep]
  all_goals rw [hts, hquiet.left]

/-! ### The fetch of a unit -/

theorem heldFetch_bare (s : State) : heldFetch (bare.on s) = bare.on (heldFetch s) := by
  change (if opcodeHold (fetchUpdates s).latch (fetchUpdates s).opcode = 0 then bare.on (fetchUpdates s)
    else holdFor _ (bare.on (fetchUpdates s))) = bare.on (if _ then _ else _)
  split
  · rfl
  · exact Blur.holdFor_on ..

theorem heldFetch_fetchSampled (s : State) : heldFetch (fetchSampled s) = fetchedOpcode s := by
  have hop : (fetchUpdates (fetchSampled s)).opcode = memAnswer s.regs.pc s := mkOp_fieldsOf _
  rw [heldFetch, fetchedOpcode, hop, fetchOpcode_eq]
  rfl

/-- A unit fetched at clock edges, up to its instruction's first own step. -/
def FetchedAt (s : State) : Prop :=
  ∃ m v, m ≤ 21 ∧ Runs m (startCycle s) (afterInvocation (runStep 0 v)) ∧ SameCore v (fetched s)

theorem fetching_fetchedOpcode {s : State} (hs : Rested s) (hx : awaitsXyCb s.latch = false) :
    Fetching (operandCount s.latch (memAnswer s.regs.pc s)) 0 (fetchedOpcode s)
      ∧ (fetchedOpcode s).seq.holdLeft ≤ 2 := by
  have hclocked := hs.clocked
  have hcount : operandCount s.latch (mkOp (fieldsOf (memAnswer s.regs.pc s)).x (fieldsOf (memAnswer s.regs.pc s)).y
      (fieldsOf (memAnswer s.regs.pc s)).z) = operandCount s.latch (memAnswer s.regs.pc s) := by rw [mkOp_fieldsOf]
  refine ⟨fetchedOpcode_cases (P := Fetching _ 0) ?_ fun _ => ?_, ?_⟩
  · exact ⟨hx, hcount, rfl, ⟨hclocked.resetLow, hclocked.active, hclocked.halted⟩, .inl hs.left⟩
  · exact ⟨hx, hcount, rfl, ⟨hclocked.resetLow, hclocked.active, hclocked.halted⟩, .inr rfl⟩
  · unfold fetchedOpcode
    split
    · exact hs.left.trans_le (by decide)
    · exact Nat.mul_le_mul_left 2 (opcodeHold_le ..)

/-- The FETCH at clock edges, up to what its invocation goes on with. -/
theorem runs_fetchedOpcode {s : State} (hs : Rested s) (hx : awaitsXyCb s.latch = false)
    (hnext : s.seq.nextCycle = .fetch) :
    ∃ u, Runs 7 (startCycle s) (afterInvocation (fetchOn (operandCount s.latch (memAnswer s.regs.pc s)) 0 u))
      ∧ SameCore u (fetchedOpcode s) := by
  obtain ⟨v, hv, hsv⟩ := hs.runs_fetch hnext
  have hlatch : v.latch = s.latch := hsv.congr State.latch fun _ => rfl
  have hstep : v.seq.step = 1 := hsv.congr (fun s => s.seq.step) fun _ => rfl
  have hop : (fetchUpdates v).opcode = memAnswer s.regs.pc s :=
    (hsv.congr (fun s => (fetchUpdates s).opcode) fun _ => rfl).trans (mkOp_fieldsOf _)
  have hn : operandCount (fetchUpdates v).latch (fetchUpdates v).opcode
      = operandCount s.latch (memAnswer s.regs.pc s) := by
    rw [hop]
    exact congrArg (operandCount · _) hlatch
  rw [invoke_eq, invokeStep, hlatch, hx, if_neg nofun, invokePlain_fetch hstep hn] at hv
  exact ⟨heldFetch v, hv, heldFetch_fetchSampled s ▸ hsv.map heldFetch_bare⟩

theorem SameCore.operand {s t : State} (h : SameCore s t) :
    SameCore (busCycle (requestOperand s)) (busCycle (requestOperand t)) :=
  h.map (f := fun s => busCycle (requestOperand s)) fun s => Blur.busCycle_on bare (requestOperand s) rfl

/-- A unit other than DDCB/FDCB: its FETCH and its operand bytes. -/
theorem fetchedAt_plain {s : State} (hs : Rested s) (hx : awaitsXyCb s.latch = false)
    (hnext : s.seq.nextCycle = .fetch) : FetchedAt s := by
  obtain ⟨u, hu, hsu⟩ := runs_fetchedOpcode hs hx hnext
  obtain ⟨hfetching, hheld⟩ := fetching_fetchedOpcode hs hx
  replace hfetching := hfetching.of_sameCore hsu
  rw [← hsu.holdLeft] at hheld
  have hle := operandCount_le s.latch (memAnswer s.regs.pc s)
  unfold FetchedAt
  rw [fetched_plain hx]
  generalize operandCount s.latch (memAnswer s.regs.pc s) = n at *
  match n, hle with
  | 0, _ => exact ⟨7, u, by decide, hu, hsu⟩
  | 1, _ =>
    obtain ⟨w, hw, hsw, -, -⟩ := hfetching.runs (by decide)
    exact ⟨_, takeLow w, by omega, hu.trans hw, (hsw.trans hsu.operand).map (f := takeLow) fun _ => rfl⟩
  | 2, _ =>
    obtain ⟨w, hw, hsw, hfetching', hleft⟩ := hfetching.runs (by decide)
    obtain ⟨x, hrun, hsx, -, -⟩ := hfetching'.runs (by decide)
    have hlow : SameCore (takeLow w) (takeLow (busCycle (requestOperand (fetchedOpcode s)))) :=
      (hsw.trans hsu.operand).map (f := takeLow) fun _ => rfl
    exact ⟨_, takeHigh x, by omega, hu.trans (hw.trans hrun),
      (hsx.trans hlow.operand).map (f := takeHigh) fun _ => rfl⟩

/-- The first READ of a DDCB/FDCB unit, a hold and a done signal seen or not. -/
theorem busCycle_operand_xyCb {s : State} (hnext : s.seq.nextCycle = .read) :
    busCycle (requestOperand (takeLow (cycled s)))
      = busCycle (requestOperand (takeLow (busCycle (reqRead s.seq.nextAddr s)))) := by
  have hsettle (a : Word) : settle (requestOperand (takeLow (counted (sampleMemory .read a 3 s))))
      = settle (requestOperand (takeLow (counted (sampleMemory .read a 3 (settle (reqRead a s)))))) := by
    have hanswer : memAnswer a (settle (reqRead a s)) = memAnswer a s := rfl
    simp only [sampleMemory, hanswer]
    simp only [settle, requestOperand, takeLow, counted, record, advanceMem, reqRead, setPc, setWz]
  have hread : busCycle (reqRead s.seq.nextAddr s)
      = counted (sampleMemory .read s.seq.nextAddr 3 (settle (reqRead s.seq.nextAddr s))) := rfl
  have hcycled : cycled s = counted (sampleMemory .read s.seq.nextAddr 3 s) := by rw [cycled, transact, hnext]
  rw [hcycled, hread, busCycle_eq, busCycle_eq, hsettle]

/-- A DDCB/FDCB unit: the READ requested at the prefix, then the READ at PC. -/
theorem fetchedAt_xyCb {s : State} (hs : Rested s) (hx : awaitsXyCb s.latch = true)
    (hnext : s.seq.nextCycle = .read) (hone : s.seq.step = 1) : FetchedAt s := by
  obtain ⟨w, hw, hsw⟩ := hs.runs_cycle (by simp [hnext]) (by simp [hnext])
  have hcycled : cycled s = counted (sampleMemory .read s.seq.nextAddr 3 s) := by rw [cycled, transact, hnext]
  have hlatch : w.latch = s.latch := by rw [hsw.congr State.latch fun _ => rfl, hcycled]; rfl
  have hstep : w.seq.step = 2 := by
    rw [hsw.congr (fun s => s.seq.step) fun _ => rfl, hcycled]
    exact congrArg (· + 1) hone
  have hclocked : Clocked (takeLow w) := by
    have hc := hsw.clocked (t := cycled s) (hcycled ▸ ⟨hs.clocked.resetLow, hs.clocked.active, hs.clocked.halted⟩)
    exact ⟨hc.resetLow, hc.active, hc.halted⟩
  have hleft : (takeLow w).seq.holdLeft = 0 := by
    rw [show (takeLow w).seq.holdLeft = _ from hsw.holdLeft, hcycled]
    exact hs.left
  rw [invoke_eq, invokeStep, hlatch, hx, if_pos rfl, invokeXyCb, hstep, if_pos rfl] at hw
  obtain ⟨x, hrun, hsx⟩ := runs_operand hclocked (.inl hleft) fun _ => by
    rw [show (takeLow w).seq.step = 2 from hstep]
    decide
  obtain ⟨hl, -, -, hs2⟩ := busCycle_frame (requestOperand (takeLow w))
  replace hl : x.latch = s.latch := (hsx.congr State.latch fun _ => rfl).trans (hl.trans hlatch)
  replace hs2 : x.seq.step = 3 := by
    rw [hsx.congr (fun s => s.seq.step) fun _ => rfl, hs2]
    exact congrArg (· + 1) hstep
  rw [invoke_eq, invokeStep, hl, hx, if_pos rfl, invokeXyCb, hs2, if_neg (by decide), if_pos rfl] at hrun
  have hedges : cycleEdges s.seq = 6 := by rw [cycleEdges, hnext]
  have hsame := hsx.trans (SameCore.operand (hsw.map (f := takeLow) fun _ => rfl))
  rw [busCycle_operand_xyCb hnext] at hsame
  refine ⟨_, setFields x.seq.dataIn x, ?_, hw.trans hrun, ?_⟩
  · omega
  · rw [fetched_xyCb hx]
    exact hsame.map (f := fun s => setFields s.seq.dataIn s) fun _ => rfl

theorem fetchedAt_of_atBoundary {s : State} (hc : Clocked s) (hb : s.atBoundary = true) : FetchedAt s := by
  obtain ⟨hended, hleft, hnext⟩ := atBoundary_iff.1 hb
  cases hx : awaitsXyCb s.latch
  · rw [hx] at hnext
    exact fetchedAt_plain ⟨hc, hended, hleft⟩ hx hnext
  · rw [hx] at hnext
    exact fetchedAt_xyCb ⟨hc, hended, hleft⟩ hx hnext.1 hnext.2

/-! ### The unit fetched -/

/-- What a fetch leaves alone is in its architectural part. -/
theorem fetched_frame (s : State) : (fetched s).latch = s.latch ∧ (Clocked s → Clocked (fetched s)) := by
  obtain ⟨t, ht, hl, hr, ha, hh⟩ : ∃ t, (fetched s).arch = State.arch t ∧ t.latch = s.latch ∧ t.resetLow = s.resetLow
      ∧ t.active = s.active ∧ t.halted = s.halted := by
    cases hx : awaitsXyCb s.latch
    · obtain ⟨-, harch, -⟩ := Settled.fetchAdvances.1 s hx
      exact ⟨_, harch, rfl, rfl, rfl, rfl⟩
    · obtain ⟨harch, -⟩ := Settled.fetchAdvances.2 s hx
      exact ⟨_, harch, rfl, rfl, rfl, rfl⟩
  have hfrom {α : Type} (get : State → α) (hget : ∀ u, get u.arch = get u) : get (fetched s) = get t := by
    rw [← hget, ht, hget]
  exact ⟨(hfrom State.latch fun _ => rfl).trans hl, fun hc => ⟨(hfrom State.resetLow fun _ => rfl).trans (hr.trans
    hc.resetLow), (hfrom State.active fun _ => rfl).trans (ha.trans hc.active),
    (hfrom State.halted fun _ => rfl).trans (hh.trans hc.halted)⟩⟩

/-- The opcode fetched. -/
theorem fetched_opcode (s : State) : (fetched s).opcode
    = if awaitsXyCb s.latch then upcoming 1 s.regs.pc s else upcoming 0 s.regs.pc s := by
  cases hx : awaitsXyCb s.latch
  · obtain ⟨-, -, -, -, hfields⟩ := Settled.fetchAdvances.1 s hx
    exact opcode_of_fields hfields
  · obtain ⟨-, -, hfields⟩ := Settled.fetchAdvances.2 s hx
    exact opcode_of_fields hfields

/-- After the fetch the step machine decodes the unit's steps. -/
theorem programOf_currentInstr_fetched (s : State) :
    programOf (currentInstr (fetched s)) = programOf (nextInstr s) := by
  rw [currentInstr_eq, (fetched_frame s).1, fetched_opcode, instrAt]
  cases hx : awaitsXyCb s.latch
  · obtain ⟨hle, -, h1, h2, -⟩ := Settled.fetchAdvances.1 s hx
    simp only [Bool.false_eq_true, if_false]
    rw [nextInstr_plain hx]
    refine programOf_decodeUnit_congr ?_
    generalize operandCount s.latch (upcoming 0 s.regs.pc s) = n at *
    match n, hle with
    | 0, _ => rfl
    | 1, _ => simp [h1]
    | 2, _ => simp [h2]
  · obtain ⟨-, hd, -⟩ := Settled.fetchAdvances.2 s hx
    simp only [if_true]
    rw [nextInstr_xyCb hx, hd]

/-- The step counter when the operand bytes are fetched. -/
theorem fetchOperands_seq {n : Nat} (hn : n ≤ 2) (s : State) : (fetchOperands n s).seq.step = s.seq.step + n
    ∧ ((n = 0 → s.seq.holdLeft = 0) → (fetchOperands n s).seq.holdLeft = 0) := by
  match n, hn with
  | 0, _ => exact ⟨rfl, fun h => h rfl⟩
  | 1, _ => exact ⟨rfl, fun _ => rfl⟩
  | 2, _ => exact ⟨rfl, fun _ => rfl⟩

theorem ready_fetched {s : State} (hc : Clocked s) (hb : s.atBoundary = true) :
    Ready 0 (programOf (nextInstr s)) (fetched s) := by
  obtain ⟨hended, hleft, hnext⟩ := atBoundary_iff.1 hb
  obtain ⟨hlatch, hclocked⟩ := fetched_frame s
  have hseq : (fetched s).seq.step = firstStep (fetched s) ∧ (fetched s).seq.holdLeft = 0 := by
    rw [firstStep, hlatch, fetched_opcode]
    cases hx : awaitsXyCb s.latch <;> simp only [hx, Bool.false_eq_true, if_true, if_false] at hnext ⊢
    case true =>
      rw [fetched_xyCb hx]
      exact ⟨congrArg (· + 2) hnext.2, rfl⟩
    case false =>
      rw [fetched_plain hx, upcoming_zero]
      obtain ⟨hstep, hheld⟩ := fetchOperands_seq (operandCount_le s.latch (memAnswer s.regs.pc s)) (fetchedOpcode s)
      refine ⟨by rw [hstep, (fetchedOpcode_seq s).2], hheld fun h0 => ?_⟩
      rw [fetchedOpcode, if_pos (opcodeHold_eq_zero h0)]
      exact hleft
  exact ⟨programOf_currentInstr_fetched s, hseq.1, hseq.2, hclocked hc⟩

/-- Up to the pins, the run of an instruction's steps is the same. -/
theorem SameCore.runSteps {s t : State} (h : SameCore s t) (i : Instr) :
    SameCore (Machine.runSteps (programOf i) s) (Machine.runSteps (programOf i) t) :=
  h.map (runSteps_on rfl (commutes_programOf bare rfl i (fun _ => rfl) fun _ => rfl))

/-- A prefix byte's one step asks for no hold. -/
theorem programOf_onlyLatches_left {i : Instr} (h : onlyLatches i = true) :
    ∃ f, programOf i = [f] ∧ ∀ s, (f s).seq.holdLeft = s.seq.holdLeft := by
  obtain ⟨l, -, hp⟩ | ⟨l, -, hp⟩ := programOf_onlyLatches h
  · exact ⟨_, hp, fun _ => rfl⟩
  · exact ⟨_, hp, fun _ => rfl⟩

/-- A prefix byte's one step ends its unit. -/
theorem runToBoundary_onlyLatches {i : Instr} {v : State} (h : onlyLatches i = true) (hv : Ready 0 (programOf i) v)
    (hends : unitEnds (runSteps (programOf i) (settle v)) = true) (fuel : Nat) :
    (runToBoundary fuel (afterInvocation (runStep 0 v))).arch = (runSteps (programOf i) (settle v)).arch := by
  obtain ⟨f, hp, hleft⟩ := programOf_onlyLatches_left h
  rw [hp] at hv hends ⊢
  rw [hv.runStep, hv.runToBoundary_last fuel (.inl ((hleft v).trans hv.left)) hends]
  rfl

/-- The steps of any other instruction. -/
theorem runToBoundary_programOf {i : Instr} {v : State} (h : onlyLatches i = false) (hv : Ready 0 (programOf i) v)
    {fuel : Nat} (hfuel : 40 ≤ fuel) :
    (runToBoundary fuel (afterInvocation (runStep 0 v))).arch = (runSteps (programOf i) (settle v)).arch := by
  have hpaced := paced_programOf h
  obtain ⟨f, p, hp⟩ := hpaced.eq_cons
  rw [hp] at hv hpaced ⊢
  rw [hv.runStep, hpaced.runToBoundary rfl hv fuel hfuel]

end Sys2Proof.Machine

namespace Sys2Proof.Settled
open Machine

/-- Settles O5: the edges fetch the unit as the step does, and then each of its steps and cycles agrees. -/
theorem edgesRefineStep : Obligations.EdgesRefineStep := by
  intro s hd hr hb
  have hc := clocked_of_not_dormant hd hr
  obtain ⟨hended, hleft, -⟩ := atBoundary_iff.1 hb
  obtain ⟨m, v, hm, hruns, hv⟩ := fetchedAt_of_atBoundary hc hb
  have hready := (ready_fetched hc hb).of_sameCore hv
  have hsame := SameCore.runSteps (hv.symm.map (f := settle) fun _ => rfl) (nextInstr s)
  refine ⟨_, by rw [step_boundary hd hb, exec_eq_run], ?_⟩
  obtain ⟨fuel, hfuel, h40⟩ : ∃ fuel, unitFuel = fuel + m ∧ 40 ≤ fuel :=
    ⟨64 - m, by unfold unitFuel; omega, by omega⟩
  rw [tick_startCycle hc hended hleft, hfuel, hruns.runToBoundary,
    hsame.arch]
  cases h : onlyLatches (nextInstr s)
  case false => exact (runToBoundary_programOf h hready h40).symm
  case true =>
    have hends : unitEnds (runSteps (programOf (nextInstr s)) (settle v)) = true := by
      have hb' := atBoundary_runSteps hb
      rw [atBoundary_eq, Bool.and_eq_true] at hb'
      exact (hsame.congr unitEnds fun _ => rfl).symm.trans hb'.2
    exact (runToBoundary_onlyLatches h hready hends fuel).symm

end Sys2Proof.Settled
end
